-- ==== Sys2Proof/Word.lean ====
section
/-! DEFINITION. The word types of the K620's frames and items, and the manual's truncating division. -/

namespace Sys2Proof

/-- One data byte of a frame. -/
abbrev Byte := BitVec 8

/-- A 16-bit item or frame field; read signed unless its layout says unsigned (R169). -/
abbrev Word := BitVec 16

/-- A standard 11-bit frame identifier (00_scope.md, Conventions). -/
abbrev Ident := BitVec 11

/-- `trunc(a / b)`: division truncating toward zero (00_scope.md, Integer arithmetic). -/
def truncDiv (a b : Int) : Int := Int.tdiv a b

/-- `|x|` as an integer (00_scope.md, Integer arithmetic). -/
def magnitude (x : Int) : Int := (x.natAbs : Int)

end Sys2Proof
end

