-- ==== Sys2Proof/Syntax.lean ====
section
/-! DEFINITION. The commands of the K620: one constructor of `Instr` per row of spec/opcode_table.json. -/

namespace Sys2Proof

/-- The two ports (01, opening). -/
inductive PortId where
  | cab
  | drive
deriving DecidableEq, Repr

/-- The two managers: the cab controller and the service tool (R146). -/
inductive Manager where
  | m0
  | m1
deriving DecidableEq, Repr

/-- The two profile banks (R134). -/
inductive BankId where
  | a
  | b
deriving DecidableEq, Repr

/-- The level of the STOP input: asserted when the rig's emergency stop chain is open (R100). -/
inductive StopLevel where
  | released
  | asserted
deriving DecidableEq, Repr

/-- A slot number of the Signal Store, 0..6 (R16). -/
abbrev SlotId := Fin 7

/-- The twelve management requests of Table 9-1 with their arguments (Table 11-4). The codes stand as carried:
an argument outside its code table is refused by the owner's rule, not here. -/
inductive Request where
  | read (space : Byte) (item : Word)
  | write (space : Byte) (item value : Word)
  | openBank (bank : Byte)
  | switch
  | cancel
  | commitMap
  | ack (cause : Byte)
  | faultRead (part : Byte)
  | biteRead (index part : Byte)
  | channelMode (channel mode : Byte)
  | linkMode (mode : Byte)
  | restart
deriving DecidableEq, Repr

/-- The commands the part takes. A request row carries the sending manager and the tag (R146); the frame that
carries it on the link is a `frameArrival`, which comes to the same (R3). -/
inductive Instr where
  /-- FULL_RESET (R167, R2, R100): the straps NODE3..NODE0 and the STOP input as the reset finds them. -/
  | fullReset (straps : BitVec 4) (stop : StopLevel)
  /-- FRAME_ARRIVAL (R3): a complete frame at a port. -/
  | frameArrival (port : PortId) (ident : Ident) (data : List Byte)
  /-- DRIVE_COMMAND (R4): a frame on the drive command identifier at the Cab Port. -/
  | driveCommand (data : List Byte)
  /-- TRANSMIT_COMPLETION (R9). -/
  | transmitCompletion (port : PortId)
  /-- TRANSMIT_FAILURE (R10). -/
  | transmitFailure (port : PortId)
  /-- BUS_RECOVERED (R11). -/
  | busRecovered (port : PortId)
  /-- COMMAND_ABSENCE_EXPIRY (R6). -/
  | commandAbsenceExpiry
  /-- ABSENCE_TIMER_EXPIRY (R20): of one slot. -/
  | absenceTimerExpiry (slot : SlotId)
  /-- NO_PROGRESS_EXPIRY (R120). -/
  | noProgressExpiry
  /-- SETTLE_TIMER_EXPIRY (R122). -/
  | settleTimerExpiry
  /-- STATUS_TIMER_EXPIRY (R165). -/
  | statusTimerExpiry
  /-- STOP_ASSERTED (R100). -/
  | stopAsserted
  /-- STOP_RELEASED (R100). -/
  | stopReleased
  /-- READ (R148). -/
  | read (m : Manager) (tag : Byte) (space : Byte) (item : Word)
  /-- WRITE (R149): to a space with no row of its own. -/
  | write (m : Manager) (tag : Byte) (space : Byte) (item value : Word)
  /-- WRITE_BANK (R136). -/
  | writeBank (m : Manager) (tag : Byte) (bank : BankId) (item value : Word)
  /-- WRITE_MAP (R38). -/
  | writeMap (m : Manager) (tag : Byte) (item value : Word)
  /-- WRITE_SIGNAL (R24). -/
  | writeSignal (m : Manager) (tag : Byte) (item value : Word)
  /-- WRITE_ROUTE (R13). -/
  | writeRoute (m : Manager) (tag : Byte) (item value : Word)
  /-- WRITE_LINK (R150). -/
  | writeLink (m : Manager) (tag : Byte) (item value : Word)
  /-- OPEN (R151). -/
  | openBank (m : Manager) (tag : Byte) (bank : Byte)
  /-- SWITCH (R139). -/
  | switch (m : Manager) (tag : Byte)
  /-- CANCEL (R142). -/
  | cancel (m : Manager) (tag : Byte)
  /-- COMMIT_MAP (R40). -/
  | commitMap (m : Manager) (tag : Byte)
  /-- ACK (R163). -/
  | ack (m : Manager) (tag : Byte) (cause : Byte)
  /-- FAULT_READ (R166). -/
  | faultRead (m : Manager) (tag : Byte) (part : Byte)
  /-- BITE_READ (R131). -/
  | biteRead (m : Manager) (tag : Byte) (index part : Byte)
  /-- CHANNEL_MODE (R98). -/
  | channelMode (m : Manager) (tag : Byte) (channel mode : Byte)
  /-- LINK_MODE (R102). -/
  | linkMode (m : Manager) (tag : Byte) (mode : Byte)
  /-- RESTART (R154). -/
  | restart (m : Manager) (tag : Byte)
deriving DecidableEq, Repr

end Sys2Proof
end

