-- ==== Sys2Proof/Machine/Bytes.lean ====
section
/-! DEFINITION. Bytes, words and limits: the helpers the frame layouts of 11 and the computations are built from. -/

namespace Sys2Proof.Machine

/-- `clamp(x, lo, hi)`: x limited to lo..hi (00_scope.md, Integer arithmetic). -/
def clamp (x lo hi : Int) : Int := max lo (min x hi)

/-- The word of an integer, two's complement. -/
def wordOf (x : Int) : Word := BitVec.ofInt 16 x

/-- The unsigned word of a count. -/
def wordOfNat (x : Nat) : Word := BitVec.ofNat 16 x

/-- The byte of a code or count. -/
def byteOf (x : Nat) : Byte := BitVec.ofNat 8 x

/-- Least significant byte of a word (R169). -/
def lowByte (w : Word) : Byte := w.extractLsb' 0 8

/-- Most significant byte of a word (R169). -/
def highByte (w : Word) : Byte := w.extractLsb' 8 8

/-- A word as its two bytes, least significant first (R169). -/
def wordBytes (w : Word) : List Byte := [lowByte w, highByte w]

/-- The word whose less significant byte is `lo` (R169). -/
def joinBytes (lo hi : Byte) : Word := hi ++ lo

/-- Byte i of a frame's data; 0 past its end, where no caller reads without a length check. -/
def byteAt (data : List Byte) (i : Nat) : Byte := data.getD i 0

/-- The word at byte offset i. -/
def wordAt (data : List Byte) (i : Nat) : Word := joinBytes (byteAt data i) (byteAt data (i + 1))

/-- Data bytes padded with 0 to n bytes: a byte the layouts do not assign is sent as 0 (R169). -/
def padTo (n : Nat) (data : List Byte) : List Byte := data ++ List.replicate (n - data.length) 0

/-- One more, stopping at the bound: a saturating counter (00_scope.md, Counters). -/
def bump (n top : Nat) : Nat := min (n + 1) top

end Sys2Proof.Machine
end

