-- ==== Sys2Proof/Decode.lean ====
section
/-! DEFINITION. Request frames decoded to requests and back (Tables 11-3, 11-4, 11-6), and the host's
`decodeTableWord`. The opcode table gives its rows no bits, so no word spells a command. -/

namespace Sys2Proof

open Sys2Proof.Machine

/-- The request code of Table 11-6. -/
def Request.code : Request → Nat
  | .read _ _ => 0
  | .write _ _ _ => 1
  | .openBank _ => 2
  | .switch => 3
  | .cancel => 4
  | .commitMap => 5
  | .ack _ => 6
  | .faultRead _ => 7
  | .biteRead _ _ => 8
  | .channelMode _ _ => 9
  | .linkMode _ => 10
  | .restart => 11

/-- The request code a frame carries: the low four bits of byte 0; 0 where the frame has no byte 0 (R146, R169). -/
def requestCode (data : List Byte) : Nat := (byteAt data 0).toNat % 16

/-- The tag: byte 1; 0 where the frame is too short to carry it (R146). -/
def requestTag (data : List Byte) : Byte := byteAt data 1

/-- Table 11-4: the minimum length of a request frame; none for a code that is no request (12..15, R169). -/
def requestMinLength : Nat → Option Nat
  | 0 => some 5
  | 1 => some 7
  | 2 => some 3
  | 3 => some 2
  | 4 => some 2
  | 5 => some 2
  | 6 => some 3
  | 7 => some 3
  | 8 => some 4
  | 9 => some 4
  | 10 => some 3
  | 11 => some 2
  | _ => none

/-- The request a frame long enough for its code carries (Table 11-4); none for an unknown code. -/
def requestBody (code : Nat) (data : List Byte) : Option Request :=
  match code with
  | 0 => some (.read (byteAt data 2) (wordAt data 3))
  | 1 => some (.write (byteAt data 2) (wordAt data 3) (wordAt data 5))
  | 2 => some (.openBank (byteAt data 2))
  | 3 => some .switch
  | 4 => some .cancel
  | 5 => some .commitMap
  | 6 => some (.ack (byteAt data 2))
  | 7 => some (.faultRead (byteAt data 2))
  | 8 => some (.biteRead (byteAt data 2) (byteAt data 3))
  | 9 => some (.channelMode (byteAt data 2) (byteAt data 3))
  | 10 => some (.linkMode (byteAt data 2))
  | 11 => some .restart
  | _ => none

/-- Check 1 of R147 with its outcome: the request, or none where the frame is too short for its code or the code is
none of the twelve (answered BAD_REQUEST). -/
def decodeRequest (data : List Byte) : Option Request :=
  match requestMinLength (requestCode data) with
  | none => none
  | some n => if data.length < n then none else requestBody (requestCode data) data

/-- The data bytes of a request frame, of the minimum length of Table 11-4. -/
def encodeRequest (tag : Byte) (r : Request) : List Byte :=
  let head := [byteOf r.code, tag]
  match r with
  | .read space item => head ++ [space] ++ wordBytes item
  | .write space item value => head ++ [space] ++ wordBytes item ++ wordBytes value
  | .openBank bank => head ++ [bank]
  | .switch => head
  | .cancel => head
  | .commitMap => head
  | .ack cause => head ++ [cause]
  | .faultRead part => head ++ [part]
  | .biteRead index part => head ++ [index, part]
  | .channelMode channel mode => head ++ [channel, mode]
  | .linkMode mode => head ++ [mode]
  | .restart => head

/-- The row of the opcode table that a request is. A WRITE to a space with a row of its own is that row. -/
def Request.row (m : Manager) (tag : Byte) : Request → Instr
  | .read space item => .read m tag space item
  | .write space item value =>
    if space = 0 then .writeBank m tag .a item value
    else if space = 1 then .writeBank m tag .b item value
    else if space = 2 then .writeMap m tag item value
    else if space = 3 then .writeSignal m tag item value
    else if space = 4 then .writeRoute m tag item value
    else if space = 5 then .writeLink m tag item value
    else .write m tag space item value
  | .openBank bank => .openBank m tag bank
  | .switch => .switch m tag
  | .cancel => .cancel m tag
  | .commitMap => .commitMap m tag
  | .ack cause => .ack m tag cause
  | .faultRead part => .faultRead m tag part
  | .biteRead index part => .biteRead m tag index part
  | .channelMode channel mode => .channelMode m tag channel mode
  | .linkMode mode => .linkMode m tag mode
  | .restart => .restart m tag

/-- The command that a word spells by the table's bits: the table gives no row any bits, so none. -/
def decodeTableWord (nbits w : Nat) : Option Instr :=
  match nbits, w with
  | _, _ => none

end Sys2Proof
end

