-- ==== Sys2Proof/Config.lean ====
section
/-! DEFINITION. What one K620 fixes, and the one choice the manual leaves open. -/

namespace Sys2Proof.Config

/-- Forwarded places of the Cab Port (Table 1-1). -/
def cabForwardedPlaces : Nat := 4

/-- Forwarded places of the Drive Port (Table 1-1). -/
def driveForwardedPlaces : Nat := 7

/-- Upper bound of a forward drop count (R1). -/
def dropCountTop : Nat := 65535

/-- Records the fault queue holds (R159). -/
def faultQueuePlaces : Nat := 16

/-- Records the bite log holds (R130). -/
def biteLogPlaces : Nat := 8

/-- The order in which timers that run out in the same millisecond are taken. The manual gives the outcome of
every order and fixes none (R6, R31, R132), so this is a free value: at time `now`, the timer with the lower rank
is taken first. Nothing in the model constrains it. Log entry 4. -/
opaque expiryRank (now : Nat) (timer : Nat) : Nat

end Sys2Proof.Config
end

