-- ==== Sys2Proof/Machine/State.lean ====
section
/-! DEFINITION. The state of the K620, block by block, as plain data, and the state right after a full reset. -/

namespace Sys2Proof.Machine

/-! ## Ports and Routing Table (01) -/

/-- The port state (R1). -/
inductive PortState where
  | online
  | offline
deriving DecidableEq, Repr

/-- A frame of a link: identifier and data bytes; its length is the number of its bytes. -/
structure Frame where
  ident : Ident
  data : List Byte
deriving DecidableEq, Repr

/-- The tag of a queued frame: one of the own kinds of Table 1-3, or forwarded (R1). -/
inductive FrameKind where
  | driveSetpoint
  | status
  | echo
  | reply0
  | reply1
  | forwarded
deriving DecidableEq, Repr

/-- A frame in a transmit queue with its tag (R1). -/
structure Queued where
  kind : FrameKind
  frame : Frame
deriving DecidableEq, Repr

/-- A port (R1). The transmit queue is the frame on offer, if any, followed by the frames that wait, earliest
queued first. Log entry 16. -/
structure Port where
  state : PortState
  offer : Option Queued
  waiting : List Queued
  drops : Nat
deriving DecidableEq, Repr

/-- The class of a routing entry (R12). -/
inductive RouteClass where
  | empty
  | sample
  | pass
  | block
deriving DecidableEq, Repr

/-- How a mapping reads its 16-bit value (R12). -/
inductive Signedness where
  | signed
  | unsigned
deriving DecidableEq, Repr

/-- A mapping position (R12). The slot, offset and signedness of an unused position are stored and read back
(R148). -/
structure Mapping where
  used : Bool
  slot : SlotId
  offset : Fin 7
  sign : Signedness
deriving DecidableEq, Repr

/-- A Routing Table entry (R12). -/
structure RouteEntry where
  port : PortId
  ident : Ident
  cls : RouteClass
  maps : Vector Mapping 4
deriving DecidableEq, Repr

/-! ## Signal Store (02) -/

/-- The state of a slot (R17). -/
inductive SlotState where
  | awaiting
  | fresh
  | lost
deriving DecidableEq, Repr

/-- What a slot that is not FRESH gives (R23). -/
inductive Policy where
  | hold
  | subst
deriving DecidableEq, Repr

/-- An absence timer: RUNNING with the ms left, or EXPIRED (R17). -/
inductive AbsenceTimer where
  | running (left : Nat)
  | expired
deriving DecidableEq, Repr

/-- The seven configuration items of a slot (R23). RMIN, RMAX and SUBST stand as written: for slot 6 in cm. -/
structure SlotConfig where
  lossTime : Nat
  rmin : Int
  rmax : Int
  absEn : Bool
  rngEn : Bool
  policy : Policy
  subst : Int
deriving DecidableEq, Repr

/-- A slot record (R17) with the slot's configuration (R23). -/
structure Slot where
  raw : Int
  held : Int
  state : SlotState
  lostAbsence : Bool
  lostRange : Bool
  rangeCond : Bool
  timer : AbsenceTimer
  cfg : SlotConfig
deriving DecidableEq, Repr

/-- The Signal Store: the slots, the torque estimate T (R27) and the measured crowd force Fm (R28). -/
structure SignalStore where
  slots : Vector Slot 7
  torque : Int
  crowd : Int
deriving DecidableEq, Repr

/-! ## Kelly Map (03) and Extension Tracker (04) -/

/-- The Kelly Map: 54 items as written, and the commit state (R34). -/
structure KellyMap where
  items : Vector Word 54
  committed : Bool
deriving DecidableEq, Repr

/-- The tracker state (R47). -/
inductive TrackerMode where
  | unmapped
  | seeking
  | tracking
  | lost
deriving DecidableEq, Repr

/-- The loss cause (R47). -/
inductive LossCause where
  | sensor
  | overExtend
  | underRun
deriving DecidableEq, Repr

/-- The state of a junction (R48). -/
inductive JunctionState where
  | nested
  | free
  | full
  | locked
deriving DecidableEq, Repr

/-- A junction record (R48). Lock point P1 has index 0 here and number 1 in frames. -/
structure Junction where
  ext : Int
  state : JunctionState
  lock : Option (Fin 4)
deriving DecidableEq, Repr

/-- The Extension Tracker (R47 to R50). Junction k is at index k - 2. -/
structure Tracker where
  mode : TrackerMode
  cause : Option LossCause
  junctions : Vector Junction 5
  xt : Int
  xm : Int
deriving DecidableEq, Repr

/-! ## Command Conditioner (05) and Channel Control (06) -/

/-- The three governed channels (Table 6-1). -/
inductive Channel where
  | rotary
  | crowd
  | winch
deriving DecidableEq, Repr

/-- One value for each channel. -/
structure PerChannel (α : Type) where
  rotary : α
  crowd : α
  winch : α
deriving DecidableEq, Repr

/-- A normalised action code (R72). -/
inductive Action where
  | none
  | start
  | abort
  | resume
deriving DecidableEq, Repr

/-- The conditioner record (R70): previous setpoints PN, PF, PW, hold targets, stall latch (true is SET), stall
count and action memory. -/
structure Conditioner where
  prev : PerChannel Int
  hold : PerChannel (Option Int)
  stallLatch : Bool
  stallCount : Nat
  action : Action
deriving DecidableEq, Repr

/-- A channel mode (R97). -/
inductive ChannelMode where
  | normal
  | hold
  | neutral
deriving DecidableEq, Repr

/-- The drive-following monitor of a channel (R97): not-following latch (true is SET), following count, reference
position. ROTARY never has a reference (R105). -/
structure Follow where
  latch : Bool
  count : Nat
  ref : Option Int
deriving DecidableEq, Repr

/-- The link mode (R97). -/
inductive LinkMode where
  | normal
  | loopback
deriving DecidableEq, Repr

/-- The Channel Control record (R97). -/
structure ChannelControl where
  mode : PerChannel ChannelMode
  follow : PerChannel Follow
  overloadLatch : Bool
  overloadCount : Nat
  stopLine : StopLevel
  linkMode : LinkMode
deriving DecidableEq, Repr

/-! ## Bite Engine (07) -/

/-- The bite state (R112). -/
inductive BiteState where
  | idle
  | engage
  | cut
  | regrip
  | settle
  | jammed
deriving DecidableEq, Repr

/-- The jam cause (R112). -/
inductive JamCause where
  | biteJam
  | trackLost
deriving DecidableEq, Repr

/-- The bite context (R113). Depths in mm, start time in ms of the timebase. -/
structure BiteContext where
  number : Nat
  d0 : Int
  hw : Int
  bl : Int
  rb : Int
  regrips : Nat
  jams : Nat
  peakT : Int
  peakPush : Int
  startTime : Nat
deriving DecidableEq, Repr

/-- How a bite ended (R129). -/
inductive BiteOutcome where
  | done
  | aborted
deriving DecidableEq, Repr

/-- A bite record (R129). D0 and HW in cm. -/
structure BiteRecord where
  number : Nat
  d0 : Int
  hw : Int
  bl : Int
  regrips : Nat
  jams : Nat
  peakT : Int
  peakPush : Int
  duration : Nat
  outcome : BiteOutcome
deriving DecidableEq, Repr

/-- The Bite Engine (R112). A timer that is `none` is stopped; else it holds the ms left. `refDepth` is the reference
depth held with the no-progress timer (R120). The log is oldest first (R130). -/
structure BiteEngine where
  state : BiteState
  jamCause : Option JamCause
  ctx : Option BiteContext
  progressTimer : Option Nat
  refDepth : Int
  settleTimer : Option Nat
  counter : Nat
  log : List BiteRecord
deriving DecidableEq, Repr

/-! ## Profile Banks (08), Management Agent (09), Fault Monitor (10) -/

/-- The Profile Banks (R134). -/
structure ProfileBanks where
  bankA : Vector Word 63
  bankB : Vector Word 63
  active : BankId
  activeValid : Bool
  pendingSwitch : Bool
deriving DecidableEq, Repr

/-- The load reservation's two parts (R151). -/
structure Reservation where
  holder : Manager
  bank : BankId
deriving DecidableEq, Repr

/-- The LINK items, in ms (R150). -/
structure LinkItems where
  cmdTimeout : Nat
  statusPeriod : Nat
deriving DecidableEq, Repr

/-- The 23 causes (R157). -/
inductive Cause where
  | stopLine
  | driveLinkDown
  | badCmd
  | badSample
  | slotLost (n : SlotId)
  | trackLost
  | biteJam
  | cmdAbsent
  | cabLinkDown
  | notFollowing (c : Channel)
  | kellyOverload
  | actionRefused
  | stall
  | bankSwitched
  | idConflict
deriving DecidableEq, Repr

/-- A fault record (R158). Its class is the cause's (R157). Tip depth in cm, time modulo 65536 ms. -/
structure FaultRecord where
  cause : Cause
  count : Nat
  seq : Byte
  bite : BiteState
  tracker : TrackerMode
  tip : Int
  time : Nat
  contextValid : Bool
deriving DecidableEq, Repr

/-- The Fault Monitor (R159, R161, R162). The queue is oldest first. -/
structure FaultMonitor where
  queue : List FaultRecord
  tripPending : Bool
  lockout : Bool
deriving DecidableEq, Repr

/-! ## The machine -/

/-- The whole part. `pending` is the model's own: the commands that wait, first in, first out (log entry 15). -/
structure State where
  pending : List Instr
  stopInput : StopLevel
  node : BitVec 4
  clock : Nat
  lastSeq : Byte
  commandTimer : Nat
  statusTimer : Nat
  link : LinkItems
  cab : Port
  drive : Port
  routes : Vector RouteEntry 32
  signal : SignalStore
  kelly : KellyMap
  tracker : Tracker
  cond : Conditioner
  chan : ChannelControl
  bite : BiteEngine
  banks : ProfileBanks
  reservation : Option Reservation
  faults : FaultMonitor
deriving DecidableEq, Repr

/-- A fault would stop the machine. The manual gives every command an effect in every state, so nothing raises one
and there is no constructor. Safe: no behaviour is cut off. -/
inductive Fault where
deriving DecidableEq, Repr

/-- Why a command is turned away by the model. -/
inductive Refusal where
  /-- Raised by `exec` for a row of the opcode table that has no meaning yet; safe. No arm answers with it. -/
  | notModelled (mnemonic : String)
deriving DecidableEq, Repr

/-! ## Full reset -/

/-- A port after a full reset (R1). -/
def Port.reset : Port := { state := .online, offer := none, waiting := [], drops := 0 }

/-- A mapping position after a full reset: unused (R12). The slot, offset and signedness of an unused position are the
model's choice: the item reads 0 (log entry 22). -/
def Mapping.reset : Mapping := { used := false, slot := 0, offset := 0, sign := .signed }

/-- A routing entry after a full reset (R12). -/
def RouteEntry.reset : RouteEntry :=
  { port := .cab, ident := 0, cls := .empty, maps := Vector.replicate 4 Mapping.reset }

/-- A slot after a full reset, with the ends of its RMIN..RMAX as written (R17, R23). -/
def Slot.reset (rmin rmax : Int) : Slot :=
  { raw := 0, held := 0, state := .awaiting, lostAbsence := false, lostRange := false, rangeCond := false
    timer := .running 100
    cfg := { lossTime := 100, rmin := rmin, rmax := rmax, absEn := true, rngEn := true, policy := .hold, subst := 0 } }

/-- The Signal Store after a full reset: the ranges of Table 2-1, slot 6 in cm (R23); T and Fm 0 (R27, R28). -/
def SignalStore.reset : SignalStore :=
  { slots := #v[Slot.reset (-600) 600, Slot.reset 0 5000, Slot.reset 0 5000, Slot.reset 0 5000, Slot.reset 0 5000,
      Slot.reset 0 30000, Slot.reset (-200) 15000]
    torque := 0
    crowd := 0 }

/-- The Kelly Map after a full reset (R34). -/
def KellyMap.reset : KellyMap := { items := Vector.replicate 54 0, committed := false }

/-- A junction record at its full-reset values (R48). -/
def Junction.reset : Junction := { ext := 0, state := .nested, lock := none }

/-- The Extension Tracker after a full reset (R47 to R50). -/
def Tracker.reset : Tracker :=
  { mode := .unmapped, cause := none, junctions := Vector.replicate 5 Junction.reset, xt := 0, xm := 0 }

/-- The same value for each channel. -/
def PerChannel.const {α : Type} (x : α) : PerChannel α := { rotary := x, crowd := x, winch := x }

/-- The conditioner record after a full reset (R70). -/
def Conditioner.reset : Conditioner :=
  { prev := PerChannel.const 0, hold := PerChannel.const none, stallLatch := false, stallCount := 0, action := .none }

/-- A drive-following monitor at rest: latch CLEAR, count 0, no reference (R97). -/
def Follow.rest : Follow := { latch := false, count := 0, ref := none }

/-- The Channel Control record after a full reset, with the STOP line state it reads (R97). -/
def ChannelControl.reset (stop : StopLevel) : ChannelControl :=
  { mode := PerChannel.const .normal, follow := PerChannel.const Follow.rest, overloadLatch := false
    overloadCount := 0, stopLine := stop, linkMode := .normal }

/-- The Bite Engine after a full reset (R112). -/
def BiteEngine.reset : BiteEngine :=
  { state := .idle, jamCause := none, ctx := none, progressTimer := none, refDepth := 0, settleTimer := none
    counter := 0, log := [] }

/-- The Profile Banks after a full reset (R134). -/
def ProfileBanks.reset : ProfileBanks :=
  { bankA := Vector.replicate 63 0, bankB := Vector.replicate 63 0, active := .a, activeValid := false
    pendingSwitch := false }

/-- The Fault Monitor after a full reset (R167). -/
def FaultMonitor.reset : FaultMonitor := { queue := [], tripPending := false, lockout := false }

/-- Every block at its full-reset values, the straps and the STOP line as found, and the commands that wait. The
report of an asserted STOP line is yet to be made (R167); `execFullReset` makes it. -/
def State.fullReset (pending : List Instr) (straps : BitVec 4) (stop : StopLevel) : State :=
  { pending := pending
    stopInput := stop
    node := straps
    clock := 0
    lastSeq := 0
    commandTimer := 100
    statusTimer := 100
    link := { cmdTimeout := 100, statusPeriod := 100 }
    cab := Port.reset
    drive := Port.reset
    routes := Vector.replicate 32 RouteEntry.reset
    signal := SignalStore.reset
    kelly := KellyMap.reset
    tracker := Tracker.reset
    cond := Conditioner.reset
    chan := ChannelControl.reset stop
    bite := BiteEngine.reset
    banks := ProfileBanks.reset
    reservation := none
    faults := FaultMonitor.reset }

/-- The machine right after a full reset that found the straps at 0 and the STOP line released (log entry 1), with no
command waiting. -/
def State.reset : State := State.fullReset [] 0 .released

end Sys2Proof.Machine
end

