-- ==== Sys2Proof/Machine/Codes.lean ====
section
/-! DEFINITION. The numeric codes of Tables 11-6 and 11-7, and the class of each cause (R157). -/

namespace Sys2Proof.Machine

/-! ## Choices -/

/-- false 0, true 1; also CLEAR and SET, OFF and ON. -/
def boolCode (x : Bool) : Nat := if x then 1 else 0

/-- Bank A 0, B 1. -/
def bankCode : BankId → Nat
  | .a => 0
  | .b => 1

/-- The bank of a bank code; none outside the table. -/
def bankOfCode : Nat → Option BankId
  | 0 => some .a
  | 1 => some .b
  | _ => none

/-- Port CAB 0, DRIVE 1. -/
def portCode : PortId → Nat
  | .cab => 0
  | .drive => 1

/-- ONLINE 0, OFFLINE 1. -/
def portStateCode : PortState → Nat
  | .online => 0
  | .offline => 1

/-- Route class: 0 EMPTY, 1 SAMPLE, 2 PASS, 3 BLOCK. -/
def routeClassCode : RouteClass → Nat
  | .empty => 0
  | .sample => 1
  | .pass => 2
  | .block => 3

/-- The class of a route class code. -/
def routeClassOfCode : Nat → Option RouteClass
  | 0 => some .empty
  | 1 => some .sample
  | 2 => some .pass
  | 3 => some .block
  | _ => none

/-- 0 SIGNED, 1 UNSIGNED. -/
def signednessCode : Signedness → Nat
  | .signed => 0
  | .unsigned => 1

/-- RELEASED 0, ASSERTED 1. -/
def stopLevelCode : StopLevel → Nat
  | .released => 0
  | .asserted => 1

/-- Link mode NORMAL 0, LOOPBACK 1. -/
def linkModeCode : LinkMode → Nat
  | .normal => 0
  | .loopback => 1

/-- The link mode of a code. -/
def linkModeOfCode : Nat → Option LinkMode
  | 0 => some .normal
  | 1 => some .loopback
  | _ => none

/-- POLICY: HOLD 0, SUBST 1. -/
def policyCode : Policy → Nat
  | .hold => 0
  | .subst => 1

/-- The reservation holder in frames and STATE: 0 none, 1 manager 0, 2 manager 1 (Tables 11-2, 11-9). -/
def holderCode : Option Reservation → Nat
  | none => 0
  | some { holder := .m0, bank := _ } => 1
  | some { holder := .m1, bank := _ } => 2

/-! ## States of the blocks -/

/-- Slot state: 0 AWAITING, 1 FRESH, 2 LOST. -/
def slotStateCode : SlotState → Nat
  | .awaiting => 0
  | .fresh => 1
  | .lost => 2

/-- Tracker state: 0 UNMAPPED, 1 SEEKING, 2 TRACKING, 3 LOST. -/
def trackerModeCode : TrackerMode → Nat
  | .unmapped => 0
  | .seeking => 1
  | .tracking => 2
  | .lost => 3

/-- Loss cause: 0 none, 1 SENSOR, 2 OVER_EXTEND, 3 UNDER_RUN. -/
def lossCauseCode : Option LossCause → Nat
  | none => 0
  | some .sensor => 1
  | some .overExtend => 2
  | some .underRun => 3

/-- Junction state: 0 NESTED, 1 FREE, 2 FULL, 3 LOCKED. -/
def junctionStateCode : JunctionState → Nat
  | .nested => 0
  | .free => 1
  | .full => 2
  | .locked => 3

/-- Lock point index: its number, 0 when absent. -/
def lockCode : Option (Fin 4) → Nat
  | none => 0
  | some i => i.val + 1

/-- Bite state: 0 IDLE, 1 ENGAGE, 2 CUT, 3 REGRIP, 4 SETTLE, 5 JAMMED. -/
def biteStateCode : BiteState → Nat
  | .idle => 0
  | .engage => 1
  | .cut => 2
  | .regrip => 3
  | .settle => 4
  | .jammed => 5

/-- Jam cause: 0 none, 1 BITE_JAM, 2 TRACK_LOST. -/
def jamCauseCode : Option JamCause → Nat
  | none => 0
  | some .biteJam => 1
  | some .trackLost => 2

/-- Outcome: 0 DONE, 1 ABORTED. -/
def outcomeCode : BiteOutcome → Nat
  | .done => 0
  | .aborted => 1

/-- The channel of a code: 0 ROTARY, 1 CROWD, 2 WINCH. -/
def channelOfCode : Nat → Option Channel
  | 0 => some .rotary
  | 1 => some .crowd
  | 2 => some .winch
  | _ => none

/-- Channel mode: 0 NORMAL, 1 HOLD, 2 NEUTRAL. -/
def channelModeCode : ChannelMode → Nat
  | .normal => 0
  | .hold => 1
  | .neutral => 2

/-- The channel mode of a code. -/
def channelModeOfCode : Nat → Option ChannelMode
  | 0 => some .normal
  | 1 => some .hold
  | 2 => some .neutral
  | _ => none

/-- The normalised action code of an action byte (R72): a code that is none of the four counts as NONE. -/
def actionOfCode : Nat → Option Action
  | 0 => some .none
  | 1 => some .start
  | 2 => some .abort
  | 3 => some .resume
  | _ => none

/-! ## Causes and classes -/

/-- The classes, by which a report is handled (R157). -/
inductive FaultClass where
  | t
  | p
  | d
  | n
deriving DecidableEq, Repr

/-- The class of a cause (R157). -/
def Cause.cls : Cause → FaultClass
  | .stopLine | .driveLinkDown => .t
  | .badCmd | .badSample => .p
  | .slotLost _ | .trackLost | .biteJam | .cmdAbsent | .cabLinkDown | .notFollowing _ | .kellyOverload => .d
  | .actionRefused | .stall | .bankSwitched | .idConflict => .n

/-- Class code: 1 N, 2 P, 3 D, 4 T, in ascending severity (R165). -/
def faultClassCode : FaultClass → Nat
  | .n => 1
  | .p => 2
  | .d => 3
  | .t => 4

/-- The class of a fault record is its cause's (R158). -/
def FaultRecord.cls (r : FaultRecord) : FaultClass := r.cause.cls

/-- Cause code, 0..22. -/
def causeCode : Cause → Nat
  | .stopLine => 0
  | .driveLinkDown => 1
  | .badCmd => 2
  | .badSample => 3
  | .slotLost n => 4 + n.val
  | .trackLost => 11
  | .biteJam => 12
  | .cmdAbsent => 13
  | .cabLinkDown => 14
  | .notFollowing .rotary => 15
  | .notFollowing .crowd => 16
  | .notFollowing .winch => 17
  | .kellyOverload => 18
  | .actionRefused => 19
  | .stall => 20
  | .bankSwitched => 21
  | .idConflict => 22

/-- The cause of a code; none for a code that is not one of the 23. -/
def causeOfCode : Nat → Option Cause
  | 0 => some .stopLine
  | 1 => some .driveLinkDown
  | 2 => some .badCmd
  | 3 => some .badSample
  | 4 => some (.slotLost 0)
  | 5 => some (.slotLost 1)
  | 6 => some (.slotLost 2)
  | 7 => some (.slotLost 3)
  | 8 => some (.slotLost 4)
  | 9 => some (.slotLost 5)
  | 10 => some (.slotLost 6)
  | 11 => some .trackLost
  | 12 => some .biteJam
  | 13 => some .cmdAbsent
  | 14 => some .cabLinkDown
  | 15 => some (.notFollowing .rotary)
  | 16 => some (.notFollowing .crowd)
  | 17 => some (.notFollowing .winch)
  | 18 => some .kellyOverload
  | 19 => some .actionRefused
  | 20 => some .stall
  | 21 => some .bankSwitched
  | 22 => some .idConflict
  | _ => none

/-! ## Replies -/

/-- Reply status (Table 11-6). -/
inductive Status where
  | ok
  | deferred
  | badRequest
  | badItem
  | badValue
  | activeBank
  | switchPending
  | notHolder
  | bankInvalid
  | mapInUse
  | mapInvalid
  | engineBusy
  | stillActive
  | notFound
  | lockedOut
deriving DecidableEq, Repr

/-- Reply status code. -/
def statusCode : Status → Nat
  | .ok => 0
  | .deferred => 1
  | .badRequest => 2
  | .badItem => 3
  | .badValue => 4
  | .activeBank => 5
  | .switchPending => 6
  | .notHolder => 7
  | .bankInvalid => 8
  | .mapInUse => 9
  | .mapInvalid => 10
  | .engineBusy => 11
  | .stillActive => 12
  | .notFound => 13
  | .lockedOut => 14

/-- Map reason (R41). -/
inductive MapReason where
  | sections
  | constant
  | travel
  | rating
  | lockCount
  | lockOrder
  | lockWindow
deriving DecidableEq, Repr

/-- Map reason code. -/
def mapReasonCode : MapReason → Nat
  | .sections => 1
  | .constant => 2
  | .travel => 3
  | .rating => 4
  | .lockCount => 5
  | .lockOrder => 6
  | .lockWindow => 7

end Sys2Proof.Machine
end

