-- ==== Sys2Proof/Machine/Items.lean ====
section
/-! DEFINITION. The bank items (Table 8-1) and map items (Tables 3-2, 3-3, 11-8) by name. -/

namespace Sys2Proof.Machine

/-- One profile bank. -/
abbrev Bank := Vector Word 63

/-- The 54 map items. -/
abbrev MapItems := Vector Word 54

/-- Item i of a table of words as a signed value; 0 for a number outside the table, which no reader names. -/
def itemAt {n : Nat} (xs : Vector Word n) (i : Nat) : Int := (xs[i]?.getD 0).toInt

/-! ## Bank items (Table 8-1) -/

/-- n, the envelope point count. -/
def envelopeCount (b : Bank) : Int := itemAt b 0

/-- Ti, the torque of envelope point i. -/
def envelopeTorque (b : Bank) (i : Nat) : Int := itemAt b (1 + 2 * i)

/-- Ni, the speed of envelope point i. -/
def envelopeSpeed (b : Bank) (i : Nat) : Int := itemAt b (2 + 2 * i)

/-- Ta. -/
def derateStart (b : Bank) : Int := itemAt b 25

/-- Tb. -/
def derateEnd (b : Bank) : Int := itemAt b 26

/-- Dmin. -/
def derateMin (b : Bank) : Int := itemAt b 27

/-- TSTALL. -/
def stallTorque (b : Bank) : Int := itemAt b 28

/-- NSTALL. -/
def stallSpeed (b : Bank) : Int := itemAt b 29

/-- STALL_COUNT. -/
def stallLimit (b : Bank) : Int := itemAt b 30

/-- THYST. -/
def stallHysteresis (b : Bank) : Int := itemAt b 31

/-- The rise step of a channel. -/
def riseStep (b : Bank) : Channel → Int
  | .rotary => itemAt b 32
  | .crowd => itemAt b 34
  | .winch => itemAt b 36

/-- The fall step of a channel. -/
def fallStep (b : Bank) : Channel → Int
  | .rotary => itemAt b 33
  | .crowd => itemAt b 35
  | .winch => itemAt b 37

/-- WLIM. -/
def winchLimit (b : Bank) : Int := itemAt b 38

/-- FPULL. -/
def pullLimit (b : Bank) : Int := itemAt b 39

/-- FSAFE. -/
def safePush (b : Bank) : Int := itemAt b 40

/-- SETTLE_SPEED. -/
def settleSpeed (b : Bank) : Int := itemAt b 41

/-- JAM_SPEED. -/
def jamSpeed (b : Bank) : Int := itemAt b 42

/-- SETTLE_TIME. -/
def settleTime (b : Bank) : Int := itemAt b 43

/-- HEAD_LIMIT. -/
def headLimit (b : Bank) : Int := itemAt b 44

/-- REGRIP_CLEAR. -/
def regripClear (b : Bank) : Int := itemAt b 45

/-- PROG_MIN. -/
def progressMin (b : Bank) : Int := itemAt b 46

/-- PROG_TIME. -/
def progressTime (b : Bank) : Int := itemAt b 47

/-- FINISH_BAND. -/
def finishBand (b : Bank) : Int := itemAt b 48

/-- The first of the four drive-following items of a channel. -/
def followBase : Channel → Nat
  | .rotary => 49
  | .crowd => 53
  | .winch => 57

/-- EN of a channel is ON (code 1). -/
def followEnabled (b : Bank) (c : Channel) : Bool := decide (itemAt b (followBase c) = 1)

/-- FMIN of a channel. -/
def followMin (b : Bank) (c : Channel) : Int := itemAt b (followBase c + 1)

/-- FDELTA of a channel. -/
def followDelta (b : Bank) (c : Channel) : Int := itemAt b (followBase c + 2)

/-- FCOUNT of a channel. -/
def followLimit (b : Bank) (c : Channel) : Int := itemAt b (followBase c + 3)

/-- OVERLOAD_COUNT. -/
def overloadLimit (b : Bank) : Int := itemAt b 61

/-- BITE_LEN. -/
def biteLength (b : Bank) : Int := itemAt b 62

/-! ## Map items (Tables 3-2, 3-3, 11-8) -/

/-- S, the number of sections. -/
def mapSections (m : MapItems) : Int := itemAt m 0

/-- HEAD_OFFSET. -/
def headOffset (m : MapItems) : Int := itemAt m 1

/-- NEST_WIN. -/
def nestWindow (m : MapItems) : Int := itemAt m 2

/-- LOCK_WIN. -/
def lockWindow (m : MapItems) : Int := itemAt m 3

/-- DEADBAND. -/
def deadband (m : MapItems) : Int := itemAt m 4

/-- TLOCK. -/
def lockTorque (m : MapItems) : Int := itemAt m 5

/-- KT. -/
def torqueConstant (m : MapItems) : Int := itemAt m 6

/-- AP. -/
def pushArea (m : MapItems) : Int := itemAt m 7

/-- AR. -/
def pullArea (m : MapItems) : Int := itemAt m 8

/-- The number of item j of junction k, k at index k - 2. -/
def junctionItem (k : Fin 5) (j : Nat) : Nat := 9 + 9 * k.val + j

/-- L of a junction. -/
def junctionTravel (m : MapItems) (k : Fin 5) : Int := itemAt m (junctionItem k 0)

/-- NR of a junction. -/
def ratingNested (m : MapItems) (k : Fin 5) : Int := itemAt m (junctionItem k 1)

/-- LR of a junction. -/
def ratingLocked (m : MapItems) (k : Fin 5) : Int := itemAt m (junctionItem k 2)

/-- FR of a junction. -/
def ratingFree (m : MapItems) (k : Fin 5) : Int := itemAt m (junctionItem k 3)

/-- NLP of a junction. -/
def lockPointCount (m : MapItems) (k : Fin 5) : Int := itemAt m (junctionItem k 4)

/-- P1..P4 of a junction, P1 at index 0. -/
def lockPoint (m : MapItems) (k : Fin 5) (i : Nat) : Int := itemAt m (junctionItem k (5 + i))

/-- Junction k, at index k - 2, is in use: it lies in 2..S (R35, R48). -/
def junctionInUse (m : MapItems) (k : Fin 5) : Bool := decide ((k.val : Int) + 2 ≤ mapSections m)

/-- Junctions 2 to 6, outermost first. -/
def junctionIds : List (Fin 5) := [0, 1, 2, 3, 4]

/-- Junctions 6 down to 2, innermost first (R55). -/
def junctionIdsInward : List (Fin 5) := [4, 3, 2, 1, 0]

/-- The junctions in use, 2..S, outermost first. -/
def junctionsUsed (m : MapItems) : List (Fin 5) := junctionIds.filter (junctionInUse m)

end Sys2Proof.Machine
end

