-- ==== Sys2Proof/Machine/Update.lean ====
section
/-! DEFINITION. One named update per field of `State` that a command changes. Laws/State.lean says what each leaves
unchanged. -/

namespace Sys2Proof.Machine

/-- The state with its `pending` replaced. -/
def State.withPending (s : State) (x : List Instr) : State := { s with pending := x }

/-- The state with its `stopInput` replaced. -/
def State.withStopInput (s : State) (x : StopLevel) : State := { s with stopInput := x }

/-- The state with its `clock` replaced. -/
def State.withClock (s : State) (x : Nat) : State := { s with clock := x }

/-- The state with its `lastSeq` replaced. -/
def State.withLastSeq (s : State) (x : Byte) : State := { s with lastSeq := x }

/-- The state with its `commandTimer` replaced. -/
def State.withCommandTimer (s : State) (x : Nat) : State := { s with commandTimer := x }

/-- The state with its `statusTimer` replaced. -/
def State.withStatusTimer (s : State) (x : Nat) : State := { s with statusTimer := x }

/-- The state with its `link` replaced. -/
def State.withLink (s : State) (x : LinkItems) : State := { s with link := x }

/-- The state with its `cab` replaced. -/
def State.withCab (s : State) (x : Port) : State := { s with cab := x }

/-- The state with its `drive` replaced. -/
def State.withDrive (s : State) (x : Port) : State := { s with drive := x }

/-- The state with its `routes` replaced. -/
def State.withRoutes (s : State) (x : Vector RouteEntry 32) : State := { s with routes := x }

/-- The state with its `signal` replaced. -/
def State.withSignal (s : State) (x : SignalStore) : State := { s with signal := x }

/-- The state with its `kelly` replaced. -/
def State.withKelly (s : State) (x : KellyMap) : State := { s with kelly := x }

/-- The state with its `tracker` replaced. -/
def State.withTracker (s : State) (x : Tracker) : State := { s with tracker := x }

/-- The state with its `cond` replaced. -/
def State.withCond (s : State) (x : Conditioner) : State := { s with cond := x }

/-- The state with its `chan` replaced. -/
def State.withChan (s : State) (x : ChannelControl) : State := { s with chan := x }

/-- The state with its `bite` replaced. -/
def State.withBite (s : State) (x : BiteEngine) : State := { s with bite := x }

/-- The state with its `banks` replaced. -/
def State.withBanks (s : State) (x : ProfileBanks) : State := { s with banks := x }

/-- The state with its `reservation` replaced. -/
def State.withReservation (s : State) (x : Option Reservation) : State := { s with reservation := x }

/-- The state with its `faults` replaced. -/
def State.withFaults (s : State) (x : FaultMonitor) : State := { s with faults := x }

end Sys2Proof.Machine
end

