-- ==== Sys2Proof/Machine/Operands.lean ====
section
/-! DEFINITION. What the blocks read: own identifiers, drive command fields, effective values, derived quantities,
crowd-ready, FK, the governor state. -/

namespace Sys2Proof.Machine

/-! ## Per channel and per port -/

/-- The value of a channel. -/
def PerChannel.get {α : Type} (p : PerChannel α) : Channel → α
  | .rotary => p.rotary
  | .crowd => p.crowd
  | .winch => p.winch

/-- The values with one channel's replaced. -/
def PerChannel.set {α : Type} (p : PerChannel α) (c : Channel) (x : α) : PerChannel α :=
  match c with
  | .rotary => { p with rotary := x }
  | .crowd => { p with crowd := x }
  | .winch => { p with winch := x }

/-- A function applied to each channel. -/
def PerChannel.tabulate {α : Type} (f : Channel → α) : PerChannel α :=
  { rotary := f .rotary, crowd := f .crowd, winch := f .winch }

/-- A port of the part. -/
def State.port (s : State) : PortId → Port
  | .cab => s.cab
  | .drive => s.drive

/-- The state with one port replaced. -/
def State.withPort (s : State) (p : PortId) (x : Port) : State :=
  match p with
  | .cab => s.withCab x
  | .drive => s.withDrive x

/-- The opposite port (R8). -/
def otherPort : PortId → PortId
  | .cab => .drive
  | .drive => .cab

/-- The forwarded places of a port (Table 1-1). -/
def forwardedPlaces : PortId → Nat
  | .cab => Config.cabForwardedPlaces
  | .drive => Config.driveForwardedPlaces

/-! ## Own identifiers (Table 1-2) -/

/-- An own identifier: its base plus the node number (R2). -/
def ownIdent (base : Ident) (node : BitVec 4) : Ident := base + node.setWidth 11

/-- The drive command identifier. -/
def driveCommandIdent (node : BitVec 4) : Ident := ownIdent 0x0C0 node

/-- The request identifier of a manager. -/
def requestIdent (node : BitVec 4) : Manager → Ident
  | .m0 => ownIdent 0x5E0 node
  | .m1 => ownIdent 0x5F0 node

/-- The identifier of an own frame kind (Table 1-3); a forwarded frame has its own identifier, not one of these. -/
def kindIdent (node : BitVec 4) : FrameKind → Option Ident
  | .driveSetpoint => some (ownIdent 0x0D0 node)
  | .status => some (ownIdent 0x3C0 node)
  | .echo => some (ownIdent 0x3D0 node)
  | .reply0 => some (ownIdent 0x6E0 node)
  | .reply1 => some (ownIdent 0x6F0 node)
  | .forwarded => none

/-- The own output identifiers (R3, fourth line). -/
def isOutputIdent (node : BitVec 4) (id : Ident) : Bool :=
  [FrameKind.driveSetpoint, .status, .echo, .reply0, .reply1].any (fun k => kindIdent node k == some id)

/-- The manager whose request identifier this is. -/
def managerOfIdent (node : BitVec 4) (id : Ident) : Option Manager :=
  if id = requestIdent node .m0 then some .m0
  else if id = requestIdent node .m1 then some .m1
  else none

/-- The reply kind of a manager (R146). -/
def replyKind : Manager → FrameKind
  | .m0 => .reply0
  | .m1 => .reply1

/-! ## Drive command fields (Table 11-1) -/

/-- The sequence number of a drive command. -/
def commandSeq (data : List Byte) : Byte := byteAt data 0

/-- The action code of a drive command. -/
def commandAction (data : List Byte) : Nat := (byteAt data 1).toNat

/-- The three requests, each limited to its range (R71). -/
def commandRequests (data : List Byte) : PerChannel Int :=
  { rotary := clamp (wordAt data 2).toInt (-600) 600
    crowd := clamp (wordAt data 4).toInt (-2000) 2000
    winch := clamp (wordAt data 6).toInt (-2000) 2000 }

/-! ## Slots (02) -/

/-- The lower end of a slot's plausible range, in its unit (Table 2-1). -/
def plausibleLow (i : SlotId) : Int :=
  if i = 0 then -600 else if i = 6 then -2000 else 0

/-- The upper end of a slot's plausible range, in its unit (Table 2-1). -/
def plausibleHigh (i : SlotId) : Int :=
  if i = 0 then 600 else if i = 5 then 30000 else if i = 6 then 150000 else 5000

/-- A value limited to the slot's plausible range (R22). -/
def limitPlausible (i : SlotId) (x : Int) : Int := clamp x (plausibleLow i) (plausibleHigh i)

/-- A wire value or configuration value in the slot's unit: slot 6 comes in cm and is held in mm (R18, R23). -/
def inSlotUnit (i : SlotId) (x : Int) : Int := if i = 6 then 10 * x else x

/-- A value of the slot's unit as it leaves the part: slot 6 in cm (R33). -/
def inWireUnit (i : SlotId) (x : Int) : Int := if i = 6 then truncDiv x 10 else x

/-- The effective value of a slot (R22). -/
def Slot.effective (i : SlotId) (r : Slot) : Int :=
  match r.state with
  | .fresh => limitPlausible i r.raw
  | .awaiting | .lost =>
    match r.cfg.policy with
    | .hold => r.held
    | .subst => inSlotUnit i r.cfg.subst

/-- A slot record of the store. -/
def SignalStore.slot (g : SignalStore) (i : SlotId) : Slot := g.slots[i]

/-- The store with one slot record replaced. -/
def SignalStore.withSlot (g : SignalStore) (i : SlotId) (r : Slot) : SignalStore :=
  { g with slots := g.slots.set i r }

/-- The effective value of a slot as it stands. -/
def State.effective (s : State) (i : SlotId) : Int := (s.signal.slot i).effective i

/-- The effective TIPDEPTH in cm (R33). -/
def State.tipDepthCm (s : State) : Int := truncDiv (s.effective 6) 10

/-- The torque estimate formed from the effective ROTPA and ROTPB and from KT as they stand (R27). -/
def State.torqueNow (s : State) : Int :=
  truncDiv ((s.effective 1 - s.effective 2) * torqueConstant s.kelly.items) 10000

/-- The measured crowd force formed from the effective CRDP and CRDR and from AP and AR as they stand (R28). -/
def State.crowdNow (s : State) : Int :=
  truncDiv (s.effective 3 * pushArea s.kelly.items - s.effective 4 * pullArea s.kelly.items) 1000

/-- The measured extension formed from TIPDEPTH, HEADPOS and HEAD_OFFSET as they stand (R50). -/
def State.extensionNow (s : State) : Int :=
  s.effective 6 - s.effective 5 - headOffset s.kelly.items

/-! ## Banks -/

/-- A bank by name. -/
def ProfileBanks.bank (p : ProfileBanks) : BankId → Bank
  | .a => p.bankA
  | .b => p.bankB

/-- The banks with one replaced. -/
def ProfileBanks.withBank (p : ProfileBanks) (i : BankId) (b : Bank) : ProfileBanks :=
  match i with
  | .a => { p with bankA := b }
  | .b => { p with bankB := b }

/-- The other bank. -/
def otherBank : BankId → BankId
  | .a => .b
  | .b => .a

/-- The active bank's items (R135). -/
def State.activeBank (s : State) : Bank := s.banks.bank s.banks.active

/-! ## Tracker results (04) -/

/-- Crowd-ready: TRACKING with every junction in use NESTED or LOCKED (R64). -/
def State.crowdReady (s : State) : Bool :=
  decide (s.tracker.mode = .tracking) &&
    (junctionsUsed s.kelly.items).all fun k =>
      decide (s.tracker.junctions[k].state = .nested) || decide (s.tracker.junctions[k].state = .locked)

/-- The rating that applies to a junction in its state (R65). -/
def junctionRating (m : MapItems) (k : Fin 5) (j : JunctionState) : Int :=
  match j with
  | .nested => ratingNested m k
  | .locked => ratingLocked m k
  | .free | .full => ratingFree m k

/-- The least of a list; 0 for the empty list, which is the FK of a kelly with no junction and is read in no reachable
state (log entry 14). -/
def leastOf : List Int → Int
  | [] => 0
  | x :: xs => xs.foldl min x

/-- The kelly push limit FK as it stands (R65). -/
def State.pushLimit (s : State) : Int :=
  match s.tracker.mode with
  | .tracking =>
    leastOf ((junctionsUsed s.kelly.items).map fun k => junctionRating s.kelly.items k s.tracker.junctions[k].state)
  | .unmapped | .seeking | .lost => safePush s.activeBank

/-! ## Governor state (R164) -/

/-- The governor state. It is derived, never stored. -/
inductive Governor where
  | notReady
  | ready
  | tripped
  | lockout
deriving DecidableEq, Repr

/-- The governor state as it stands (R164). -/
def State.governor (s : State) : Governor :=
  if s.faults.lockout then .lockout
  else if s.faults.tripPending then .tripped
  else if s.banks.activeValid && decide (s.tracker.mode ≠ .unmapped) then .ready
  else .notReady

/-- Governor code: 0 NOT_READY, 1 READY, 2 TRIPPED, 3 LOCKOUT. -/
def governorCode : Governor → Nat
  | .notReady => 0
  | .ready => 1
  | .tripped => 2
  | .lockout => 3

/-- A channel is forced to neutral (R101). -/
def ChannelControl.forced (cc : ChannelControl) (c : Channel) : Bool :=
  decide (cc.mode.get c = .neutral) || decide (cc.stopLine = .asserted) || (cc.follow.get c).latch ||
    (decide (c = .crowd) && cc.overloadLatch)

end Sys2Proof.Machine
end

