-- ==== Sys2Proof/Machine/Flags.lean ====
section
/-! DEFINITION. The limit flags of a drive setpoint frame (Table 5-4, Table 11-1) and the tests that set them. -/

namespace Sys2Proof.Machine

/-- The eight flags of a conditioned frame (Table 5-4). -/
structure LimitFlags where
  env : Bool := false
  spdcap : Bool := false
  derate : Bool := false
  kelly : Bool := false
  gate : Bool := false
  ramp : Bool := false
  hoist : Bool := false
  forced : Bool := false
deriving DecidableEq, Repr

/-- No flag set (R74). -/
def LimitFlags.clear : LimitFlags := {}

/-- Only FORCED set: a zero frame (R91). -/
def LimitFlags.zeroFrame : LimitFlags := { forced := true }

/-- The flags set by either of two stages. -/
def LimitFlags.union (a b : LimitFlags) : LimitFlags :=
  { env := a.env || b.env
    spdcap := a.spdcap || b.spdcap
    derate := a.derate || b.derate
    kelly := a.kelly || b.kelly
    gate := a.gate || b.gate
    ramp := a.ramp || b.ramp
    hoist := a.hoist || b.hoist
    forced := a.forced || b.forced }

/-- The flags byte: ENV bit 0, SPDCAP 1, DERATE 2, KELLY 3, GATE 4, RAMP 5, HOIST 6, FORCED 7 (Table 11-1). -/
def LimitFlags.byte (f : LimitFlags) : Byte :=
  byteOf (boolCode f.env + 2 * boolCode f.spdcap + 4 * boolCode f.derate + 8 * boolCode f.kelly +
    16 * boolCode f.gate + 32 * boolCode f.ramp + 64 * boolCode f.hoist + 128 * boolCode f.forced)

/-- ENV and SPDCAP for a rotary request (R77) or ramped value (R84). -/
def rotaryFlags (x nlim : Int) (cap : Option Int) : LimitFlags :=
  { env := decide (nlim < magnitude x)
    spdcap := match cap with
      | some c => decide (c < magnitude x)
      | none => false }

/-- KELLY, DERATE and GATE for a crowd request (R82) or ramped value (R84). `d` is the derate factor, `fe` the
effective push limit. -/
def crowdFlags (x fe d : Int) (gateClosed latchSet : Bool) : LimitFlags :=
  { kelly := decide (0 < x) && decide (fe < x)
    derate := latchSet || (decide (0 < x) && decide (fe < x) && decide (d < 256))
    gate := gateClosed && decide (0 < x) }

end Sys2Proof.Machine
end

