-- ==== Sys2Proof/Machine/Ops.lean ====
section
/-! DEFINITION. The shared operations: transmit queues (R7 to R11), fault records (R158 to R160), drive setpoint
frames, the drive-following monitor (R104 to R106), zero frames (R91) and the switch of banks (R140, R141). -/

namespace Sys2Proof.Machine

/-! ## Transmit queues -/

/-- The frames a port holds: the one on offer, then those that wait (R1). -/
def Port.held (p : Port) : List Queued := p.offer.toList ++ p.waiting

/-- The forwarded frames a port holds (R8). -/
def Port.forwardedHeld (p : Port) : Nat := p.held.countP (fun q => decide (q.kind = .forwarded))

/-- The queued frame with the lowest identifier, the earliest queued among equals, and the rest (R9). -/
def takeLowest : List Queued → Option (Queued × List Queued)
  | [] => none
  | q :: qs =>
    match takeLowest qs with
    | none => some (q, [])
    | some (m, rest) =>
      if q.frame.ident.toNat ≤ m.frame.ident.toNat then some (q, qs) else some (m, q :: rest)

/-- An ONLINE port with frames waiting and none on offer puts the next one on offer (R9). -/
def Port.offerNext (p : Port) : Port :=
  match p.state, p.offer, takeLowest p.waiting with
  | .online, none, some (q, rest) => { p with offer := some q, waiting := rest }
  | _, _, _ => p

/-- The queue without its frame of an own kind: withdrawn if on offer, removed if waiting (R7; log entry 20 settles R95's
trip against a frame on offer). -/
def Port.withoutKind (p : Port) (k : FrameKind) : Port :=
  { p with
    offer := p.offer.filter (fun q => decide (q.kind ≠ k))
    waiting := p.waiting.filter (fun q => decide (q.kind ≠ k)) }

/-- An own frame is queued: it takes its kind's place; at an OFFLINE port it is discarded (R7, R11). A frame of its kind that
is on offer is withdrawn, also by a trip's zero frame (log entry 20). -/
def Port.queueOwn (p : Port) (q : Queued) : Port :=
  match p.state with
  | .offline => p
  | .online =>
    let cleared := p.withoutKind q.kind
    Port.offerNext { cleared with waiting := cleared.waiting ++ [q] }

/-- A forward drop count with n more, saturating (R8, R10). -/
def addDrops (count n : Nat) : Nat := min (count + n) Config.dropCountTop

/-- A forwarded frame is queued if the port is ONLINE and holds fewer than its places, else discarded and counted
(R8, R11). -/
def Port.queueForwarded (p : Port) (places : Nat) (f : Frame) : Port :=
  match p.state with
  | .offline => { p with drops := addDrops p.drops 1 }
  | .online =>
    if p.forwardedHeld < places then
      Port.offerNext { p with waiting := p.waiting ++ [{ kind := .forwarded, frame := f }] }
    else { p with drops := addDrops p.drops 1 }

/-- A transmit completion: the frame on offer leaves and the next is chosen (R9). With none on offer there is nothing
to complete (log entry 8). -/
def Port.complete (p : Port) : Port :=
  match p.offer with
  | none => p
  | some _ => Port.offerNext { p with offer := none }

/-- A transmit failure at an ONLINE port: OFFLINE, the queue emptied, its forwarded frames counted (R10). -/
def Port.fail (p : Port) : Port :=
  match p.state with
  | .offline => p
  | .online =>
    { state := .offline, offer := none, waiting := [], drops := addDrops p.drops p.forwardedHeld }

/-- Bus recovered: an OFFLINE port becomes ONLINE with an empty queue (R11). -/
def Port.recover (p : Port) : Port :=
  match p.state with
  | .online => p
  | .offline => { p with state := .online, offer := none, waiting := [] }

/-- An own frame of a kind, with its identifier (Table 1-3). -/
def ownFrame (node : BitVec 4) (kind : FrameKind) (data : List Byte) : Queued :=
  { kind := kind, frame := { ident := (kindIdent node kind).getD 0, data := data } }

/-- An own frame of a Cab Port kind is queued there. -/
def State.queueCab (s : State) (kind : FrameKind) (data : List Byte) : State :=
  s.withCab (s.cab.queueOwn (ownFrame s.node kind data))

/-- A frame that arrived at port `p` is forwarded to the other port (R8). -/
def State.forward (s : State) (p : PortId) (f : Frame) : State :=
  s.withPort (otherPort p) ((s.port (otherPort p)).queueForwarded (forwardedPlaces (otherPort p)) f)

/-! ## Fault records -/

/-- A record of the cause is held (R159). -/
def FaultMonitor.holds (m : FaultMonitor) (c : Cause) : Bool := m.queue.any (fun r => decide (r.cause = c))

/-- A record of class T is held (R163). -/
def FaultMonitor.holdsTrip (m : FaultMonitor) : Bool := m.queue.any (fun r => decide (r.cls = .t))

/-- The record made of a cause as things stand (R158). -/
def State.makeRecord (s : State) (c : Cause) : FaultRecord :=
  { cause := c
    count := 1
    seq := s.lastSeq
    bite := s.bite.state
    tracker := s.tracker.mode
    tip := s.tipDepthCm
    time := s.clock % 65536
    contextValid := !s.faults.tripPending }

/-- The record of the cause with its repeat count raised, saturating at 255 (R159). -/
def raiseCount (c : Cause) (q : List FaultRecord) : List FaultRecord :=
  q.map fun r => if r.cause = c then { r with count := bump r.count 255 } else r

/-- The queue without its oldest record of a class. -/
def dropOldest (k : FaultClass) (q : List FaultRecord) : List FaultRecord :=
  q.eraseP (fun r => decide (r.cls = k))

/-- A class has a record in the queue. -/
def hasClass (k : FaultClass) (q : List FaultRecord) : Bool := q.any (fun r => decide (r.cls = k))

/-- The record evicted from a full queue is the oldest of class N, else of class D, else of class P (R160). -/
def evictOne (q : List FaultRecord) : List FaultRecord :=
  if hasClass .n q then dropOldest .n q
  else if hasClass .d q then dropOldest .d q
  else dropOldest .p q

/-- A new record appended at the newest end, after an eviction if the queue is full (R159, R160). -/
def appendRecord (q : List FaultRecord) (r : FaultRecord) : List FaultRecord :=
  (if Config.faultQueuePlaces ≤ q.length then evictOne q else q) ++ [r]

/-- A report is recorded (R159). For a class T cause `State.reportTrip` does the rest. -/
def State.record (s : State) (c : Cause) : State :=
  s.withFaults { s.faults with
    queue := if s.faults.holds c then raiseCount c s.faults.queue
      else appendRecord s.faults.queue (s.makeRecord c) }

/-! ## Drive setpoint frames and the drive-following monitor -/

/-- The data of a drive setpoint or echo frame (Table 11-1). -/
def setpointData (sp : PerChannel Int) (flags : LimitFlags) (seq : Byte) : List Byte :=
  wordBytes (wordOf sp.rotary) ++ wordBytes (wordOf sp.crowd) ++ wordBytes (wordOf sp.winch) ++ [flags.byte, seq]

/-- The sensor the drive-following monitor reads for a channel (Table 6-1). -/
def sensorSlot : Channel → SlotId
  | .rotary => 0
  | .crowd => 5
  | .winch => 6

/-- Whether the drive follows (R105). `pos` is the effective value of the channel's sensor. -/
def drivesFollows (c : Channel) (delta pos : Int) (f : Follow) : Bool :=
  match c with
  | .rotary => decide (delta ≤ magnitude pos)
  | .crowd | .winch => decide (0 < f.count) && decide (delta ≤ magnitude (pos - f.ref.getD 0))

/-- A monitor's count and reference cleared, its latch as it stands. -/
def Follow.cleared (f : Follow) : Follow := { latch := f.latch, count := 0, ref := none }

/-- One test of R104 to R106 for one channel: the monitor after it, and whether the latch was set by it. -/
def followTest (valid : Bool) (b : Bank) (c : Channel) (setpoint pos : Int) (f : Follow) : Follow × Bool :=
  if !(valid && followEnabled b c && !f.latch) then (f.cleared, false)
  else if magnitude setpoint < followMin b c then (f.cleared, false)
  else if drivesFollows c (followDelta b c) pos f then (f.cleared, false)
  else if followLimit b c ≤ (f.count + 1 : Int) then ({ latch := true, count := 0, ref := none }, true)
  else
    ({ f with
        count := f.count + 1
        ref := if c = .rotary then none else if f.count = 0 then some pos else f.ref }, false)

/-- The Channel Control record with one channel's monitor replaced. -/
def ChannelControl.withFollow (cc : ChannelControl) (c : Channel) (f : Follow) : ChannelControl :=
  { cc with follow := cc.follow.set c f }

/-- The test of one channel on a frame handed to the Drive Port, with the report of R106. -/
def State.followChannel (s : State) (c : Channel) (setpoint : Int) : State :=
  let result := followTest s.banks.activeValid s.activeBank c setpoint (s.effective (sensorSlot c)) (s.chan.follow.get c)
  let tested := s.withChan (s.chan.withFollow c result.1)
  if result.2 then tested.record (.notFollowing c) else tested

/-- The drive-following monitor examines a drive setpoint frame: ROTARY, CROWD, WINCH in turn (R104). -/
def State.followFrame (s : State) (sp : PerChannel Int) : State :=
  ((s.followChannel .rotary sp.rotary).followChannel .crowd sp.crowd).followChannel .winch sp.winch

/-- The three previous setpoints replaced (R89, R90, R91). -/
def State.withPrev (s : State) (sp : PerChannel Int) : State := s.withCond { s.cond with prev := sp }

/-- A drive setpoint frame is queued on the Drive Port (R89, R91). -/
def State.queueDrive (s : State) (sp : PerChannel Int) (flags : LimitFlags) (seq : Byte) : State :=
  s.withDrive (s.drive.queueOwn (ownFrame s.node .driveSetpoint (setpointData sp flags seq)))

/-- No motion. -/
def zeroSetpoints : PerChannel Int := PerChannel.const 0

/-- A zero frame is queued outside a command and handed to the monitor; it zeroes the previous setpoints (R91,
R104). -/
def State.zeroFrame (s : State) : State :=
  ((s.queueDrive zeroSetpoints .zeroFrame s.lastSeq).withPrev zeroSetpoints).followFrame zeroSetpoints

/-! ## Switch of banks -/

/-- A switch takes effect in one act (R140). -/
def State.switchBanks (s : State) : State :=
  ((s.withBanks { s.banks with active := otherBank s.banks.active, activeValid := true, pendingSwitch := false }
    ).withReservation none).record .bankSwitched

/-- An exit from CUT is reported to the Profile Banks: a pending switch takes effect (R126, R141). -/
def State.reportCutExit (s : State) : State :=
  if s.banks.pendingSwitch then s.switchBanks else s

end Sys2Proof.Machine
end

