-- ==== Sys2Proof/Machine/Bites.lean ====
section
/-! DEFINITION. The Bite Engine: transitions, tracker changes, a slot event's own work, actions, aborts (07). -/

namespace Sys2Proof.Machine

/-! ## Leaving a state -/

/-- The engine leaves its state for `next`: both timers stop, the jam cause is removed, and an exit from CUT is
reported before the entry actions of `next` (R120, R124, R126). A BANK_SWITCHED record made here carries `next` (log
entry 9). -/
def State.biteLeave (s : State) (next : BiteState) : State :=
  let moved := s.withBite
    { s.bite with state := next, jamCause := none, progressTimer := none, settleTimer := none }
  if s.bite.state = .cut then moved.reportCutExit else moved

/-- The context changed, where there is one. -/
def State.mapContext (s : State) (f : BiteContext → BiteContext) : State :=
  s.withBite { s.bite with ctx := s.bite.ctx.map f }

/-- The bite record formed of the context at the return to IDLE (R129). -/
def BiteContext.toRecord (x : BiteContext) (now : Nat) (o : BiteOutcome) : BiteRecord :=
  { number := x.number
    d0 := truncDiv x.d0 10
    hw := truncDiv x.hw 10
    bl := x.bl
    regrips := x.regrips
    jams := x.jams
    peakT := x.peakT
    peakPush := clamp x.peakPush 0 32767
    duration := min ((now - x.startTime) / 1000) 65535
    outcome := o }

/-- The log with a record appended; the oldest is dropped when it holds 8 (R130). -/
def appendBite (log : List BiteRecord) (r : BiteRecord) : List BiteRecord :=
  (if Config.biteLogPlaces ≤ log.length then log.drop (log.length + 1 - Config.biteLogPlaces) else log) ++ [r]

/-- The return to IDLE with its record (R129, R130). -/
def State.biteEnd (s : State) (o : BiteOutcome) : State :=
  let left := s.biteLeave .idle
  left.withBite
    { left.bite with
      ctx := none
      log := match left.bite.ctx with
        | some x => appendBite left.bite.log (x.toRecord left.clock o)
        | none => left.bite.log }

/-! ## Entering a state -/

/-- Entry to CUT: the no-progress timer is armed and its reference depth becomes HW (R116, R120). -/
def State.enterCut (s : State) : State :=
  let entered := s.biteLeave .cut
  entered.withBite
    { entered.bite with
      progressTimer := some (progressTime entered.activeBank).toNat
      refDepth := (entered.bite.ctx.map BiteContext.hw).getD entered.bite.refDepth }

/-- The entry check of ENGAGE (R116). -/
def State.engageCheck (s : State) : State := if s.crowdReady then s.enterCut else s

/-- Entry to ENGAGE, with its check (R116). -/
def State.enterEngage (s : State) : State := (s.biteLeave .engage).engageCheck

/-- Entry to JAMMED: the jam count goes up, saturating (R118, R120). -/
def State.enterJammed (s : State) (c : JamCause) : State :=
  let entered := (s.biteLeave .jammed).mapContext (fun x => { x with jams := bump x.jams 255 })
  entered.withBite { entered.bite with jamCause := some c }

/-- Entry to REGRIP: the regrip count goes up, saturating (R121). -/
def State.enterRegrip (s : State) : State :=
  (s.biteLeave .regrip).mapContext (fun x => { x with regrips := bump x.regrips 255 })

/-- Entry to SETTLE: the timer is armed with the SETTLE_TIME in force after the report of the exit; a SETTLE_TIME of 0
ends the bite at once (R122). -/
def State.enterSettle (s : State) : State :=
  let entered := s.biteLeave .settle
  if settleTime entered.activeBank = 0 then entered.biteEnd .done
  else entered.withBite { entered.bite with settleTimer := some (settleTime entered.activeBank).toNat }

/-! ## Tracker changes -/

/-- The engine takes a tracker change (R116, R117, R118). -/
def State.biteTrackerChange (s : State) : State :=
  if s.tracker.mode = .tracking then
    match s.bite.state with
    | .engage => s.engageCheck
    | .cut => if s.crowdReady then s else s.enterEngage
    | .idle | .regrip | .settle | .jammed => s
  else
    match s.bite.state with
    | .engage | .cut | .regrip => s.enterJammed .trackLost
    | .idle | .settle | .jammed => s

/-! ## A slot event's own work -/

/-- Peak |T| of an open bite (R127). -/
def State.bitePeakTorque (s : State) : State :=
  s.mapContext (fun x => { x with peakT := min (max x.peakT (magnitude s.signal.torque)) 2000 })

/-- Peak push of an open bite (R127). -/
def State.bitePeakPush (s : State) : State :=
  s.mapContext (fun x => { x with peakPush := min (max x.peakPush s.signal.crowd) 10000 })

/-- The head test of a HEADPOS event (R121). -/
def State.biteHeadTest (s : State) : State :=
  match s.bite.state with
  | .cut => if headLimit s.activeBank ≤ s.effective 5 then s.enterRegrip else s
  | .regrip =>
    if s.effective 5 ≤ headLimit s.activeBank - regripClear s.activeBank then s.enterEngage else s
  | .idle | .engage | .settle | .jammed => s

/-- The context with HW raised to a depth and RB formed anew (R114, R119). -/
def BiteContext.raise (x : BiteContext) (depth : Int) : BiteContext :=
  { x with hw := max x.hw depth, rb := max 0 (x.bl - (max x.hw depth - x.d0)) }

/-- The depth work of a TIPDEPTH event in CUT (R119, R120). -/
def State.biteDepth (s : State) : State :=
  match s.bite.state, s.bite.ctx with
  | .cut, some x =>
    let y := x.raise (s.effective 6)
    let raised := s.withBite { s.bite with ctx := some y }
    if y.rb = 0 then raised.enterSettle
    else if s.bite.refDepth + progressMin s.activeBank ≤ y.hw then
      raised.withBite
        { raised.bite with progressTimer := some (progressTime s.activeBank).toNat, refDepth := y.hw }
    else raised
  | _, _ => s

/-- The Bite Engine takes a slot event: the tracker change first, then the slot's own work (R117). -/
def State.biteSlotEvent (s : State) (i : SlotId) (trackerChanged : Bool) : State :=
  let stepped := if trackerChanged then s.biteTrackerChange else s
  if i = 1 ∨ i = 2 then stepped.bitePeakTorque
  else if i = 3 ∨ i = 4 then stepped.bitePeakPush
  else if i = 5 then stepped.biteHeadTest
  else if i = 6 then stepped.biteDepth
  else stepped

/-! ## Actions -/

/-- The bite number after this one: 65535 is followed by 1 (R115). -/
def nextBiteNumber (n : Nat) : Nat := if 65535 ≤ n then 1 else n + 1

/-- The bite context START forms (R113). -/
def State.newContext (s : State) : BiteContext :=
  { number := nextBiteNumber s.bite.counter
    d0 := s.effective 6
    hw := s.effective 6
    bl := biteLength s.activeBank
    rb := biteLength s.activeBank
    regrips := 0
    jams := 0
    peakT := magnitude s.signal.torque
    peakPush := max 0 s.signal.crowd
    startTime := s.clock }

/-- START (R115). -/
def State.biteStart (s : State) : State :=
  if s.bite.state = .idle ∧ s.governor = .ready ∧ s.tracker.mode = .tracking then
    (s.withBite
      { s.bite with
        state := .engage
        counter := nextBiteNumber s.bite.counter
        ctx := some s.newContext }).engageCheck
  else s.record .actionRefused

/-- ABORT (R123). -/
def State.biteAbortAction (s : State) : State :=
  match s.bite.state with
  | .idle => s.record .actionRefused
  | .engage | .regrip | .jammed => s.biteEnd .aborted
  | .cut =>
    if finishBand s.activeBank < (s.bite.ctx.map BiteContext.rb).getD 0 then s.biteEnd .aborted else s
  | .settle => s.biteEnd .done

/-- RESUME (R124). -/
def State.biteResume (s : State) : State :=
  if s.bite.state = .jammed ∧ s.tracker.mode = .tracking then s.enterEngage else s.record .actionRefused

/-- An action handed to the engine (R72). -/
def State.biteAction (s : State) : Action → State
  | .none => s
  | .start => s.biteStart
  | .abort => s.biteAbortAction
  | .resume => s.biteResume

/-- An abort from outside the engine (R125). -/
def State.biteOutsideAbort (s : State) : State :=
  if s.bite.state = .idle then s else s.biteEnd .aborted

end Sys2Proof.Machine
end

