-- ==== Sys2Proof/Machine/Tracking.lean ====
section
/-! DEFINITION. The Extension Tracker on slot events, and its part in map requests and the restart (04). -/

namespace Sys2Proof.Machine

/-- The tracked extension: the sum of e over the junctions in use (R49). -/
def trackedExtension (m : MapItems) (js : Vector Junction 5) : Int :=
  ((junctionsUsed m).map fun k => js[k].ext).sum

/-- The tracker with new junction records, Xt recomputed (R49). -/
def Tracker.withJunctions (t : Tracker) (m : MapItems) (js : Vector Junction 5) : Tracker :=
  { t with junctions := js, xt := trackedExtension m js }

/-- A function applied to the record of one junction if it is in use. -/
def ifUsed (m : MapItems) (f : Fin 5 → Junction → Junction) (js : Vector Junction 5) (k : Fin 5) : Junction :=
  if junctionInUse m k then f k js[k] else js[k]

/-- A function applied to the record of each junction in use. -/
def mapUsed (m : MapItems) (f : Fin 5 → Junction → Junction) (js : Vector Junction 5) : Vector Junction 5 :=
  #v[ifUsed m f js 0, ifUsed m f js 1, ifUsed m f js 2, ifUsed m f js 3, ifUsed m f js 4]

/-- Entry to LOST: the cause is recorded, the records stay as they are, TRACK_LOST is reported (R57). -/
def State.trackerLose (s : State) (c : LossCause) : State :=
  (s.withTracker { s.tracker with mode := .lost, cause := some c }).record .trackLost

/-- A nested re-synchronisation (R52). -/
def Tracker.resync (t : Tracker) (m : MapItems) : Tracker :=
  { t with mode := .tracking, cause := none, junctions := mapUsed m (fun _ _ => Junction.reset) t.junctions, xt := 0 }

/-- The share a junction takes of the remaining amount (R55). -/
def walkShare (extending : Bool) (travel remaining : Int) (j : Junction) : Int :=
  if extending then min remaining (travel - j.ext) else min remaining j.ext

/-- A junction's state as it follows from its extension (R56). -/
def stateOfExtension (travel e : Int) : JunctionState :=
  if e = 0 then .nested else if e = travel then .full else .free

/-- A junction record that has taken a share; one that took none keeps its record (R56). -/
def takeShare (extending : Bool) (travel share : Int) (j : Junction) : Junction :=
  if share = 0 then j
  else
    let e := if extending then j.ext + share else j.ext - share
    { ext := e, state := stateOfExtension travel e, lock := none }

/-- One junction of the walk: LOCKED ones and those above S are passed over (R55). -/
def walkStep (m : MapItems) (extending : Bool) (acc : Int × Vector Junction 5) (k : Fin 5) :
    Int × Vector Junction 5 :=
  if junctionInUse m k && decide (acc.2[k].state ≠ .locked) then
    let share := walkShare extending (junctionTravel m k) acc.1 acc.2[k]
    (acc.1 - share, acc.2.set k (takeShare extending (junctionTravel m k) share acc.2[k]))
  else acc

/-- The walk of R55, innermost junction first: what remains, and the records it would give. -/
def distribute (m : MapItems) (d : Int) (js : Vector Junction 5) : Int × Vector Junction 5 :=
  junctionIdsInward.foldl (walkStep m (decide (0 < d))) (magnitude d, js)

/-- The walk's result is applied whole, or the tracker goes LOST (R56). -/
def State.trackerDistribute (s : State) (d : Int) : State :=
  let walked := distribute s.kelly.items d s.tracker.junctions
  if walked.1 = 0 then s.withTracker (s.tracker.withJunctions s.kelly.items walked.2)
  else s.trackerLose (if 0 < d then .overExtend else .underRun)

/-- A position slot is not FRESH (R51). -/
def State.positionStale (s : State) : Bool :=
  decide ((s.signal.slot 5).state ≠ .fresh) || decide ((s.signal.slot 6).state ≠ .fresh)

/-- The position update of R51 to R56, Xm already recomputed. -/
def State.positionTests (s : State) : State :=
  if s.tracker.mode = .unmapped then s
  else if s.positionStale then
    if s.tracker.mode = .tracking then s.trackerLose .sensor else s
  else if magnitude s.tracker.xm ≤ nestWindow s.kelly.items then
    s.withTracker (s.tracker.resync s.kelly.items)
  else if s.tracker.mode ≠ .tracking then s
  else if s.tracker.xm < -nestWindow s.kelly.items then s.trackerLose .underRun
  else if magnitude (s.tracker.xm - s.tracker.xt) ≤ deadband s.kelly.items then s
  else s.trackerDistribute (s.tracker.xm - s.tracker.xt)

/-- The tracker's work on a position slot event: Xm first, in all four states (R50), then the update. -/
def State.positionUpdate (s : State) : State :=
  (s.withTracker { s.tracker with xm := s.extensionNow }).positionTests

/-! ## Lock and unlock -/

/-- The nearer of a lock point found so far and lock point i; the earlier one where they are equally near (R61). -/
def nearerLock (m : MapItems) (k : Fin 5) (e : Int) (best : Option (Fin 4)) (i : Fin 4) : Option (Fin 4) :=
  if (i.val : Int) < lockPointCount m k ∧ magnitude (e - lockPoint m k i) ≤ lockWindow m then
    match best with
    | none => some i
    | some b => if magnitude (e - lockPoint m k i) < magnitude (e - lockPoint m k b) then some i else some b
  else best

/-- The lock point in use that junction k at extension e locks at, if any (R61). -/
def lockPointFor (m : MapItems) (k : Fin 5) (e : Int) : Option (Fin 4) :=
  [0, 1, 2, 3].foldl (nearerLock m k e) none

/-- The lock check of one junction (R61). -/
def lockJunction (m : MapItems) (k : Fin 5) (j : Junction) : Junction :=
  match j.state with
  | .free | .full =>
    match lockPointFor m k j.ext with
    | some i => { ext := lockPoint m k i, state := .locked, lock := some i }
    | none => j
  | .nested | .locked => j

/-- The unlock of one junction (R63). -/
def unlockJunction (j : Junction) : Junction :=
  match j.state with
  | .locked => { j with state := .free, lock := none }
  | .nested | .free | .full => j

/-- The tracker's work on a rotary pressure slot event (R61, R63). -/
def State.pressureUpdate (s : State) : State :=
  if s.tracker.mode ≠ .tracking then s
  else if lockTorque s.kelly.items ≤ s.signal.torque then
    s.withTracker (s.tracker.withJunctions s.kelly.items
      (mapUsed s.kelly.items (lockJunction s.kelly.items) s.tracker.junctions))
  else if s.signal.torque ≤ -lockTorque s.kelly.items then
    s.withTracker { s.tracker with junctions := mapUsed s.kelly.items (fun _ => unlockJunction) s.tracker.junctions }
  else s

/-- The tracker takes a slot event (R30). -/
def State.trackerSlotEvent (s : State) (i : SlotId) : State :=
  if i = 5 ∨ i = 6 then s.positionUpdate
  else if i = 1 ∨ i = 2 then s.pressureUpdate
  else s

/-- A tracker change: the tracker state or the state of a junction in use differs (R66). -/
def trackerChanged (m : MapItems) (before after : Tracker) : Bool :=
  decide (before.mode ≠ after.mode) ||
    (junctionsUsed m).any fun k => decide (before.junctions[k].state ≠ after.junctions[k].state)

/-- All five junction records at their full-reset values, Xt 0 (R39). -/
def Tracker.withRecordsReset (t : Tracker) : Tracker :=
  { t with junctions := Vector.replicate 5 Junction.reset, xt := 0 }

end Sys2Proof.Machine
end

