-- ==== Sys2Proof/Machine/Slots.lean ====
section
/-! DEFINITION. The Signal Store: samples, expiries, configuration writes and slot events (02), and the kelly overload
monitor (R107, R108). -/

namespace Sys2Proof.Machine

/-! ## Kelly overload monitor -/

/-- The overload count set. -/
def State.withOverloadCount (s : State) (n : Nat) : State :=
  s.withChan { s.chan with overloadCount := n }

/-- Channel Control on a crowd pressure slot event (R107, R108). -/
def State.overloadTest (s : State) : State :=
  if !s.banks.activeValid || s.chan.overloadLatch then s.withOverloadCount 0
  else if s.tracker.mode = .tracking ∧ s.pushLimit < s.signal.crowd then
    if overloadLimit s.activeBank ≤ (s.chan.overloadCount + 1 : Int) then
      (s.withChan { s.chan with overloadLatch := true, overloadCount := 0 }).record .kellyOverload
    else s.withOverloadCount (s.chan.overloadCount + 1)
  else s.withOverloadCount 0

/-! ## Slot events -/

/-- The slot event of slot i: Extension Tracker, then Bite Engine, then Channel Control (R30). -/
def State.slotEvent (s : State) (i : SlotId) : State :=
  let tracked := s.trackerSlotEvent i
  let bitten := tracked.biteSlotEvent i (trackerChanged s.kelly.items s.tracker tracked.tracker)
  if i = 3 ∨ i = 4 then bitten.overloadTest else bitten

/-- T recomputed (R27). -/
def State.refreshTorque (s : State) : State := s.withSignal { s.signal with torque := s.torqueNow }

/-- Fm recomputed (R28). -/
def State.refreshCrowd (s : State) : State := s.withSignal { s.signal with crowd := s.crowdNow }

/-- The derived quantity that slot i is an input of is recomputed (R27, R28). -/
def State.refreshDerived (s : State) (i : SlotId) : State :=
  if i = 1 ∨ i = 2 then s.refreshTorque
  else if i = 3 ∨ i = 4 then s.refreshCrowd
  else s

/-- Slot i takes a new record. Entry to LOST is reported (R21). -/
def State.storeSlot (s : State) (i : SlotId) (r : Slot) : State :=
  let stored := s.withSignal (s.signal.withSlot i r)
  if r.state = .lost ∧ (s.signal.slot i).state ≠ .lost then stored.record (.slotLost i) else stored

/-- The derived quantity, then the slot event (R29). -/
def State.deliverSlot (s : State) (i : SlotId) : State := (s.refreshDerived i).slotEvent i

/-! ## Samples -/

/-- The raw value lies outside RMIN..RMAX (R18). -/
def outsideRange (i : SlotId) (raw : Int) (c : SlotConfig) : Bool :=
  decide (raw < inSlotUnit i c.rmin) || decide (inSlotUnit i c.rmax < raw)

/-- The slot record after a sample of value v (R18, R19). -/
def Slot.sampled (i : SlotId) (v : Int) (r : Slot) : Slot :=
  let raw := inSlotUnit i v
  let outside := outsideRange i raw r.cfg
  if outside && r.cfg.rngEn then
    { r with
      raw := raw, rangeCond := outside, timer := .running r.cfg.lossTime
      lostAbsence := false, lostRange := true, state := .lost }
  else
    { r with
      raw := raw, rangeCond := outside, timer := .running r.cfg.lossTime
      lostAbsence := false, lostRange := false, state := .fresh, held := limitPlausible i raw }

/-- A sample is taken whole, with its slot event (R18, R19, R29). -/
def State.takeSample (s : State) (i : SlotId) (v : Int) : State :=
  (s.storeSlot i ((s.signal.slot i).sampled i v)).deliverSlot i

/-! ## Absence timer expiry -/

/-- The slot record after its absence timer ran out (R20). -/
def Slot.absenceExpired (r : Slot) : Slot :=
  if r.cfg.absEn then { r with timer := .expired, lostAbsence := true, state := .lost }
  else { r with timer := .expired }

/-- Slot i takes a new record, with a slot event if its state changed (R20, R25, R29). -/
def State.judgeSlot (s : State) (i : SlotId) (r : Slot) : State :=
  let stored := s.storeSlot i r
  if r.state = (s.signal.slot i).state then stored else stored.deliverSlot i

/-! ## Configuration writes -/

/-- ABSENCE or RANGE leaves lost-by; the slot goes AWAITING if lost-by is then empty (R25). -/
def Slot.settleLoss (r : Slot) : Slot :=
  if r.lostAbsence || r.lostRange then r else { r with state := .awaiting }

/-- The effect of a stored write to ABS_EN (R25). -/
def Slot.withAbsEn (r : Slot) (on : Bool) : Slot :=
  let stored : Slot := { r with cfg := { r.cfg with absEn := on } }
  if on then
    if r.timer = .expired then { stored with lostAbsence := true, state := .lost } else stored
  else if r.lostAbsence then Slot.settleLoss { stored with lostAbsence := false } else stored

/-- The effect of a stored write to RNG_EN (R25). -/
def Slot.withRngEn (r : Slot) (on : Bool) : Slot :=
  let stored : Slot := { r with cfg := { r.cfg with rngEn := on } }
  if on then
    if r.rangeCond then { stored with lostRange := true, state := .lost } else stored
  else if r.lostRange then Slot.settleLoss { stored with lostRange := false } else stored

/-- The written value lies in the range of RMIN, RMAX and SUBST: the plausible range, for slot 6 in cm (R23). -/
def inWrittenRange (i : SlotId) (v : Int) : Bool :=
  decide (plausibleLow i ≤ inSlotUnit i v) && decide (inSlotUnit i v ≤ plausibleHigh i)

/-- The configuration after a write of a LOSS_TIME, RMIN, RMAX, POLICY or SUBST; none where it is refused (R24). Items 3
and 4, the enables, are not here. -/
def SlotConfig.edit (i : SlotId) (c : SlotConfig) (j : Nat) (v : Int) : Option SlotConfig :=
  match j with
  | 0 => if 10 ≤ v ∧ v ≤ 2000 then some { c with lossTime := v.toNat } else none
  | 1 => if inWrittenRange i v ∧ v ≤ c.rmax then some { c with rmin := v } else none
  | 2 => if inWrittenRange i v ∧ c.rmin ≤ v then some { c with rmax := v } else none
  | 5 => if v = 0 then some { c with policy := .hold } else if v = 1 then some { c with policy := .subst } else none
  | 6 => if inWrittenRange i v then some { c with subst := v } else none
  | _ => none

/-- Slot i takes a configuration that changes no judgement; a changed effective value is delivered (R26, R29). -/
def State.configureSlot (s : State) (i : SlotId) (c : SlotConfig) : State :=
  let r : Slot := { s.signal.slot i with cfg := c }
  let stored := s.withSignal (s.signal.withSlot i r)
  if r.effective i = (s.signal.slot i).effective i then stored else stored.deliverSlot i

/-- A write to item j of slot i: the state after it, or none where it is refused with BAD_VALUE (R24 to R26). -/
def State.writeSlotItem (s : State) (i : SlotId) (j : Nat) (v : Int) : Option State :=
  if j = 3 then
    if v = 0 then some (s.judgeSlot i ((s.signal.slot i).withAbsEn false))
    else if v = 1 then some (s.judgeSlot i ((s.signal.slot i).withAbsEn true))
    else none
  else if j = 4 then
    if v = 0 then some (s.judgeSlot i ((s.signal.slot i).withRngEn false))
    else if v = 1 then some (s.judgeSlot i ((s.signal.slot i).withRngEn true))
    else none
  else ((s.signal.slot i).cfg.edit i j v).map (s.configureSlot i)

end Sys2Proof.Machine
end

