-- ==== Sys2Proof/Machine/Trips.lean ====
section
/-! DEFINITION. A class T report: trip and lockout (R161, R162). -/

namespace Sys2Proof.Machine

/-- The outputs go to neutral: a zero frame, then an abort to the Bite Engine (R161, R162). -/
def State.goNeutral (s : State) : State := s.zeroFrame.biteOutsideAbort

/-- A class T cause is reported. A cause whose record is held only has its count raised (R159). A new one trips the
governor if trip pending is clear (R161) and locks it out if it is set (R162). -/
def State.reportTrip (s : State) (c : Cause) : State :=
  let recorded := s.record c
  if s.faults.holds c then recorded
  else if s.faults.tripPending then
    (recorded.withFaults { recorded.faults with lockout := true }).goNeutral
  else (recorded.withFaults { recorded.faults with tripPending := true }).goNeutral

end Sys2Proof.Machine
end

