-- ==== Sys2Proof/Machine/Restart.lean ====
section
/-! DEFINITION. The governor restart, one act over all blocks (R154, R167). Its order is log entry 10. -/

namespace Sys2Proof.Machine

/-- A slot at a restart (R32). -/
def Slot.restarted (r : Slot) : Slot :=
  { r with state := .awaiting, lostAbsence := false, lostRange := false, rangeCond := false
           timer := .running r.cfg.lossTime }

/-- All slot records at a restart (R32). -/
def SignalStore.restarted (g : SignalStore) : SignalStore :=
  { g with
    slots := #v[(g.slot 0).restarted, (g.slot 1).restarted, (g.slot 2).restarted, (g.slot 3).restarted,
      (g.slot 4).restarted, (g.slot 5).restarted, (g.slot 6).restarted] }

/-- All slots at a restart, T and Fm recomputed (R32, R27, R28). -/
def State.restartSlots (s : State) : State :=
  (s.withSignal s.signal.restarted).refreshTorque.refreshCrowd

/-- The tracker at a restart (R68, R50). -/
def State.restartTracker (s : State) : State :=
  s.withTracker
    { s.tracker with mode := if s.kelly.committed then .seeking else .unmapped, cause := none, xm := s.extensionNow }

/-- The conditioner record at a restart: hold targets kept (R70). -/
def Conditioner.restarted (c : Conditioner) : Conditioner :=
  { c with prev := zeroSetpoints, stallLatch := false, stallCount := 0, action := .none }

/-- Channel Control at a restart: modes and link mode kept, the STOP line read again (R97). -/
def ChannelControl.restarted (c : ChannelControl) (stop : StopLevel) : ChannelControl :=
  { c with follow := PerChannel.const Follow.rest, overloadLatch := false, overloadCount := 0, stopLine := stop }

/-- The pending switch and the reservation are removed (R143, R154). -/
def State.restartBanks (s : State) : State :=
  (s.withBanks { s.banks with pendingSwitch := false }).withReservation none

/-- The fault queue and trip pending are cleared (R167). -/
def State.restartFaults (s : State) : State :=
  s.withFaults { s.faults with queue := [], tripPending := false }

/-- STOP_LINE is reported if the line is asserted (R100, R167). -/
def State.reportStopLine (s : State) : State :=
  if s.chan.stopLine = .asserted then s.reportTrip .stopLine else s

/-- DRIVE_LINK_DOWN is reported if the Drive Port is OFFLINE (R167). -/
def State.reportDriveLink (s : State) : State :=
  if s.drive.state = .offline then s.reportTrip .driveLinkDown else s

/-- Every block at its restart values, before the restart's own reports. -/
def State.restartBlocks (s : State) : State :=
  let ended := s.restartBanks.biteOutsideAbort
  let cleared := (ended.withCond ended.cond.restarted).withChan (ended.chan.restarted ended.stopInput)
  (cleared.restartSlots.restartTracker.withCommandTimer cleared.link.cmdTimeout).restartFaults

/-- A governor restart (R154). -/
def State.restart (s : State) : State := s.restartBlocks.reportStopLine.reportDriveLink

end Sys2Proof.Machine
end

