-- ==== Sys2Proof/Machine/LineCommands.lean ====
section
/-! DEFINITION. The meanings of FULL_RESET, STOP_ASSERTED and STOP_RELEASED (R167, R100). -/

namespace Sys2Proof.Machine

/-- The STOP input and the STOP line state take a level (R100). -/
def State.withStop (s : State) (level : StopLevel) : State :=
  (s.withStopInput level).withChan { s.chan with stopLine := level }

/-- FULL_RESET (R167): every block at its full-reset values, then the STOP line is read. The commands that wait are
still to come. -/
def execFullReset (straps : BitVec 4) (stop : StopLevel) (s : State) : Host.Outcome State Fault Refusal :=
  .next (State.fullReset s.pending straps stop).reportStopLine

/-- STOP_ASSERTED (R100). -/
def execStopAsserted (s : State) : Host.Outcome State Fault Refusal :=
  .next ((s.withStop .asserted).reportTrip .stopLine)

/-- STOP_RELEASED (R100). -/
def execStopReleased (s : State) : Host.Outcome State Fault Refusal := .next (s.withStop .released)

end Sys2Proof.Machine
end

