-- ==== Sys2Proof/Machine/Conditioning.lean ====
section
/-! DEFINITION. Command conditioning: the six stages (05, R71 to R89) and the taking of a drive command (R4). -/

namespace Sys2Proof.Machine

/-! ## Stage 1: speed envelope -/

/-- The torque a lies on the envelope segment from point i to point i + 1 (R76). -/
def onSegment (b : Bank) (a : Int) (i : Nat) : Bool :=
  decide (envelopeTorque b i ≤ a) && decide (a < envelopeTorque b (i + 1))

/-- The speed interpolated on the segment from point i (R76). -/
def segmentSpeed (b : Bank) (a : Int) (i : Nat) : Int :=
  envelopeSpeed b i + truncDiv ((a - envelopeTorque b i) * (envelopeSpeed b (i + 1) - envelopeSpeed b i))
    (envelopeTorque b (i + 1) - envelopeTorque b i)

/-- The envelope limit Nlim at torque magnitude a (R76). A validated bank always has a segment; for a bank without one
the last point stands (log entry 14). -/
def envelopeLimit (b : Bank) (a : Int) : Int :=
  let last := (envelopeCount b).toNat - 1
  if envelopeTorque b last ≤ a then envelopeSpeed b last
  else
    match (List.range last).find? (onSegment b a) with
    | some i => segmentSpeed b a i
    | none => envelopeSpeed b last

/-- The speed cap of a bite state (R77, Table 5-3). -/
def speedCap (b : Bank) : BiteState → Option Int
  | .settle => some (settleSpeed b)
  | .jammed => some (jamSpeed b)
  | .idle | .engage | .cut | .regrip => none

/-- The speed ceiling Nc (R77). -/
def speedCeiling (nlim : Int) : Option Int → Int
  | none => nlim
  | some cap => min nlim cap

/-- `sign(x) × min(|x|, limit)`. -/
def limitMagnitude (x limit : Int) : Int := Int.sign x * min (magnitude x) limit

/-! ## Stage 2: stall latch -/

/-- The stall latch and count after a command, and whether STALL is reported (R78, R79). -/
def stallStep (b : Bank) (a speed : Int) (latch : Bool) (count : Nat) : Bool × Nat × Bool :=
  if latch then
    if a < stallTorque b - stallHysteresis b then (false, 0, false) else (true, 0, false)
  else if stallTorque b ≤ a ∧ magnitude speed ≤ stallSpeed b then
    if stallLimit b ≤ (count + 1 : Int) then (true, 0, true) else (false, count + 1, false)
  else (false, 0, false)

/-! ## Stage 3: crowd limit and derate -/

/-- The derate factor D on a scale of 256 (R80). -/
def derateFactor (b : Bank) (a : Int) : Int :=
  if a ≤ derateStart b then 256
  else if derateEnd b ≤ a then derateMin b
  else 256 - truncDiv ((a - derateStart b) * (256 - derateMin b)) (derateEnd b - derateStart b)

/-- The effective push limit FE (R80). -/
def effectivePush (fk d : Int) : Int := truncDiv (fk * d) 256

/-- The push gate is closed (R81, R128). -/
def gateClosed : BiteState → Bool
  | .engage | .regrip | .settle | .jammed => true
  | .idle | .cut => false

/-- The push ceiling Fc (R81). -/
def pushCeiling (fe : Int) (gate latch : Bool) : Int := if gate || latch then 0 else fe

/-- The crowd target (R81). -/
def crowdTarget (f fc fpull : Int) : Int := if 0 < f then min f fc else max f (-fpull)

/-! ## Stage 4: ramps and ceilings -/

/-- P moved toward G by at most one step (R83). -/
def moveToward (p g step : Int) : Int :=
  if magnitude (g - p) ≤ step then g else if p < g then p + step else p - step

/-- One is above 0 and the other below (R83). -/
def oppositeSigns (p g : Int) : Bool := (decide (0 < p) && decide (g < 0)) || (decide (p < 0) && decide (0 < g))

/-- The ramp of R83. -/
def ramp (p g rise fall : Int) : Int :=
  if oppositeSigns p g then moveToward p 0 fall
  else if magnitude p < magnitude g then moveToward p g rise
  else moveToward p g fall

/-- The ceiling cut of a magnitude (R84, R86). -/
def cutMagnitude (x limit : Int) : Int := if limit < magnitude x then Int.sign x * limit else x

/-! ## The stages together -/

/-- What the stages read (R73): the active bank, a = |T|, the effective ROTSPD, FK, the bite state, the requests with hold
targets in place (R75), the conditioner record, and which channels Stage 6 forces. -/
structure StageInput where
  bank : Bank
  a : Int
  speed : Int
  fk : Int
  bite : BiteState
  request : PerChannel Int
  prev : PerChannel Int
  latch : Bool
  count : Nat
  forced : PerChannel Bool
deriving DecidableEq, Repr

/-- What the stages give: the setpoints and flags of the conditioned frame, the stall latch and count, and whether
STALL is reported. -/
structure StageOutput where
  sent : PerChannel Int
  flags : LimitFlags
  latch : Bool
  count : Nat
  stalled : Bool
deriving DecidableEq, Repr

/-- A rotary or crowd channel after Stage 4, or the winch after Stage 5: its target, its setpoint after ramp and ceiling
cut, and the flags of its limits. -/
structure ChannelResult where
  target : Int
  setpoint : Int
  flags : LimitFlags
deriving DecidableEq, Repr

/-- Stages 1 and 4 for ROTARY (R76, R77, R83, R84). -/
def conditionRotary (x : StageInput) : ChannelResult :=
  let nlim := envelopeLimit x.bank x.a
  let cap := speedCap x.bank x.bite
  let nc := speedCeiling nlim cap
  let target := limitMagnitude x.request.rotary nc
  let ramped := ramp x.prev.rotary target (riseStep x.bank .rotary) (fallStep x.bank .rotary)
  { target := target
    setpoint := cutMagnitude ramped nc
    flags := (rotaryFlags x.request.rotary nlim cap).union (rotaryFlags ramped nlim cap) }

/-- Stages 3 and 4 for CROWD, with the stall latch as Stage 2 has left it (R80 to R84). -/
def conditionCrowd (x : StageInput) (latch : Bool) : ChannelResult :=
  let d := derateFactor x.bank x.a
  let fe := effectivePush x.fk d
  let gate := gateClosed x.bite
  let fc := pushCeiling fe gate latch
  let target := crowdTarget x.request.crowd fc (pullLimit x.bank)
  let ramped := ramp x.prev.crowd target (riseStep x.bank .crowd) (fallStep x.bank .crowd)
  { target := target
    setpoint := min ramped fc
    flags := (crowdFlags x.request.crowd fe d gate latch).union (crowdFlags ramped fe d gate latch) }

/-- Stage 5, with the crowd setpoint as Stage 4 has left it (R86). -/
def conditionWinch (x : StageInput) (crowdSetpoint : Int) : ChannelResult :=
  let limited := clamp x.request.winch (-winchLimit x.bank) (winchLimit x.bank)
  let blocked := decide (0 < crowdSetpoint) && decide (limited < 0)
  let target := if blocked then 0 else limited
  let ramped := ramp x.prev.winch target (riseStep x.bank .winch) (fallStep x.bank .winch)
  { target := target
    setpoint := cutMagnitude ramped (winchLimit x.bank)
    flags := { hoist := blocked } }

/-- The channel has not reached its target, and Stage 6 does not force it (R85). -/
def ChannelResult.ramping (r : ChannelResult) (forced : Bool) : Bool :=
  !forced && decide (r.setpoint ≠ r.target)

/-- The setpoint Stage 6 leaves a channel (R87, R88). -/
def ChannelResult.sent (r : ChannelResult) (forced : Bool) : Int := if forced then 0 else r.setpoint

/-- Stages 1 to 6 on one command (R76 to R88). -/
def runStages (x : StageInput) : StageOutput :=
  let stall := stallStep x.bank x.a x.speed x.latch x.count
  let rotary := conditionRotary x
  let crowd := conditionCrowd x stall.1
  let winch := conditionWinch x crowd.setpoint
  { sent :=
      { rotary := rotary.sent x.forced.rotary
        crowd := crowd.sent x.forced.crowd
        winch := winch.sent x.forced.winch }
    flags :=
      ((rotary.flags.union crowd.flags).union winch.flags).union
        { ramp := rotary.ramping x.forced.rotary || crowd.ramping x.forced.crowd || winch.ramping x.forced.winch
          forced := x.forced.rotary || x.forced.crowd || x.forced.winch }
    latch := stall.1
    count := stall.2.1
    stalled := stall.2.2 }

/-! ## Taking a command -/

/-- A channel is sent 0: forced to neutral (R87), or the governor is not READY (R88). -/
def State.channelForced (s : State) (c : Channel) : Bool :=
  s.chan.forced c || decide (s.governor ≠ .ready)

/-- The request a channel is conditioned from: its hold target in HOLD (R75). -/
def State.channelRequest (s : State) (request : PerChannel Int) (c : Channel) : Int :=
  match s.chan.mode.get c, s.cond.hold.get c with
  | .hold, some h => h
  | _, _ => request.get c

/-- The readings of R73. -/
def State.stageInput (s : State) (request : PerChannel Int) : StageInput :=
  { bank := s.activeBank
    a := magnitude s.signal.torque
    speed := s.effective 0
    fk := s.pushLimit
    bite := s.bite.state
    request := PerChannel.tabulate (s.channelRequest request)
    prev := s.cond.prev
    latch := s.cond.stallLatch
    count := s.cond.stallCount
    forced := PerChannel.tabulate s.channelForced }

/-- What the conditioner forms: the six stages, or Stage 6 alone while active-valid is false (R74). -/
def State.stageOutput (s : State) (request : PerChannel Int) : StageOutput :=
  if s.banks.activeValid then runStages (s.stageInput request)
  else
    { sent := zeroSetpoints, flags := .zeroFrame, latch := s.cond.stallLatch, count := s.cond.stallCount
      stalled := false }

/-- The conditioned frame is emitted as the link mode requires (R89). -/
def State.emit (s : State) (sp : PerChannel Int) (flags : LimitFlags) (seq : Byte) : State :=
  match s.chan.linkMode with
  | .normal => ((s.queueDrive sp flags seq).withPrev sp).followFrame sp
  | .loopback =>
    (((s.queueCab .echo (setpointData sp flags seq)).queueDrive zeroSetpoints .zeroFrame seq).withPrev sp).followFrame
      zeroSetpoints

/-- The stall latch and count after Stage 2, with the report of R78. -/
def State.applyStall (s : State) (o : StageOutput) : State :=
  let latched := s.withCond { s.cond with stallLatch := o.latch, stallCount := o.count }
  if o.stalled then latched.record .stall else latched

/-- The stages and the emission, after the action hand-off. -/
def State.conditionCommand (s : State) (request : PerChannel Int) (seq : Byte) : State :=
  let o := s.stageOutput request
  (s.applyStall o).emit o.sent o.flags seq

/-- The action memory replaced (R72). -/
def State.withAction (s : State) (a : Action) : State := s.withCond { s.cond with action := a }

/-- The action hand-off (R72). -/
def State.handOff (s : State) (code : Nat) : State :=
  match actionOfCode code with
  | none => (s.record .actionRefused).withAction .none
  | some a =>
    (if a ≠ .none ∧ a ≠ s.cond.action then s.biteAction a else s).withAction a

/-- The sequence number is recorded and the command absence timer re-armed (R4). -/
def State.acceptCommand (s : State) (data : List Byte) : State :=
  (s.withLastSeq (commandSeq data)).withCommandTimer s.link.cmdTimeout

/-- A drive command frame at the Cab Port (R4, R72, R73, R89). -/
def State.takeCommand (s : State) (data : List Byte) : State :=
  if data.length < 8 then s.record .badCmd
  else
    ((s.acceptCommand data).handOff (commandAction data)).conditionCommand (commandRequests data) (commandSeq data)

end Sys2Proof.Machine
end

