-- ==== Sys2Proof/Machine/Status.lean ====
section
/-! DEFINITION. What the part reports: the status frame (R165, Table 11-2) and the STATE space (Table 11-9, R170). -/

namespace Sys2Proof.Machine

/-! ## Status frame -/

/-- The highest pending class code: 0 with no record, else the most severe (R165). -/
def highestClass (q : List FaultRecord) : Nat := q.foldl (fun acc r => max acc (faultClassCode r.cls)) 0

/-- The slots, 0 to 6. -/
def slotIds : List SlotId := [0, 1, 2, 3, 4, 5, 6]

/-- Bit n of the lost-slot mask stands for slot n LOST (R33). -/
def SignalStore.lostBit (g : SignalStore) (i : SlotId) : Nat :=
  if (g.slot i).state = .lost then 2 ^ i.val else 0

/-- The lost-slot mask (R33). -/
def SignalStore.lostMask (g : SignalStore) : Nat := (slotIds.map g.lostBit).sum

/-- The remaining bite shown outside: 0 while IDLE (R113). -/
def State.shownRemaining (s : State) : Int := (s.bite.ctx.map BiteContext.rb).getD 0

/-- Byte 0 of the status frame (Table 11-2). -/
def State.statusByte0 (s : State) : Byte :=
  byteOf (governorCode s.governor + 4 * linkModeCode s.chan.linkMode + 8 * bankCode s.banks.active +
    16 * boolCode s.banks.pendingSwitch + 32 * holderCode s.reservation)

/-- Byte 1 of the status frame (Table 11-2). -/
def State.statusByte1 (s : State) : Byte :=
  byteOf (biteStateCode s.bite.state + 8 * trackerModeCode s.tracker.mode + 32 * highestClass s.faults.queue)

/-- The data of a status frame (R165, Table 11-2). -/
def State.statusData (s : State) : List Byte :=
  [s.statusByte0, s.statusByte1, byteOf s.faults.queue.length, byteOf s.signal.lostMask] ++
    wordBytes (wordOf s.shownRemaining) ++ wordBytes (wordOf s.tipDepthCm)

/-! ## STATE space -/

/-- A word of a flag. -/
def flagWord (x : Bool) : Word := wordOfNat (boolCode x)

/-- Items 0..6. -/
def State.itemsTracker (s : State) : List Word :=
  [wordOfNat (governorCode s.governor), wordOfNat (trackerModeCode s.tracker.mode),
    wordOfNat (lossCauseCode s.tracker.cause), wordOf (truncDiv s.tracker.xm 10), wordOf (truncDiv s.tracker.xt 10),
    flagWord s.crowdReady, wordOf s.pushLimit]

/-- The three items of a junction. -/
def Junction.items (j : Junction) : List Word :=
  [wordOf j.ext, wordOfNat (junctionStateCode j.state), wordOfNat (lockCode j.lock)]

/-- Items 7..21. -/
def State.itemsJunctions (s : State) : List Word :=
  junctionIds.flatMap fun k => s.tracker.junctions[k].items

/-- Lost-by as a code: ABSENCE adds 1, RANGE adds 2 (Table 11-7). -/
def Slot.lostByCode (r : Slot) : Nat := boolCode r.lostAbsence + 2 * boolCode r.lostRange

/-- The three items of a slot. -/
def Slot.items (i : SlotId) (r : Slot) : List Word :=
  [wordOfNat (slotStateCode r.state), wordOfNat r.lostByCode, wordOf (inWireUnit i (r.effective i))]

/-- Items 22..44: the slots, T, and Fm limited to a word (R170). -/
def State.itemsSignal (s : State) : List Word :=
  (slotIds.flatMap fun i => (s.signal.slot i).items i) ++
    [wordOf s.signal.torque, wordOf (clamp s.signal.crowd (-32768) 32767)]

/-- A hold target as an item: 0 while absent (R170). -/
def optWord (x : Option Int) : Word := wordOf (x.getD 0)

/-- Items 45..52. -/
def State.itemsConditioner (s : State) : List Word :=
  [wordOf s.cond.prev.rotary, wordOf s.cond.prev.crowd, wordOf s.cond.prev.winch, flagWord s.cond.stallLatch,
    wordOfNat s.cond.stallCount, optWord s.cond.hold.rotary, optWord s.cond.hold.crowd, optWord s.cond.hold.winch]

/-- Items 53..67. -/
def State.itemsChannels (s : State) : List Word :=
  let cc := s.chan
  [wordOfNat (channelModeCode cc.mode.rotary), wordOfNat (channelModeCode cc.mode.crowd),
    wordOfNat (channelModeCode cc.mode.winch), flagWord cc.follow.rotary.latch, flagWord cc.follow.crowd.latch,
    flagWord cc.follow.winch.latch, wordOfNat cc.follow.rotary.count, wordOfNat cc.follow.crowd.count,
    wordOfNat cc.follow.winch.count, optWord cc.follow.crowd.ref, wordOf (truncDiv (cc.follow.winch.ref.getD 0) 10),
    flagWord cc.overloadLatch, wordOfNat cc.overloadCount, wordOfNat (stopLevelCode cc.stopLine),
    wordOfNat (linkModeCode cc.linkMode)]

/-- A part of the bite context as an item: 0 while there is none (R170). -/
def BiteEngine.ctxWord (b : BiteEngine) (f : BiteContext → Word) : Word := (b.ctx.map f).getD 0

/-- Items 68..78. -/
def State.itemsBite (s : State) : List Word :=
  [wordOfNat (biteStateCode s.bite.state), wordOfNat (jamCauseCode s.bite.jamCause), wordOfNat s.bite.counter,
    s.bite.ctxWord fun x => wordOf (truncDiv x.d0 10), s.bite.ctxWord fun x => wordOf (truncDiv x.hw 10),
    s.bite.ctxWord fun x => wordOf x.bl, s.bite.ctxWord fun x => wordOf x.rb,
    s.bite.ctxWord fun x => wordOfNat x.regrips, s.bite.ctxWord fun x => wordOfNat x.jams,
    s.bite.ctxWord fun x => wordOf x.peakT, s.bite.ctxWord fun x => wordOf (clamp x.peakPush 0 32767)]

/-- The reserved bank as an item: 0 when none. -/
def reservedBankCode : Option Reservation → Nat
  | none => 0
  | some r => bankCode r.bank

/-- Items 79..87. -/
def State.itemsBanks (s : State) : List Word :=
  [wordOfNat (bankCode s.banks.active), flagWord s.banks.activeValid, flagWord s.banks.pendingSwitch,
    wordOfNat (portStateCode s.cab.state), wordOfNat s.cab.drops, wordOfNat (portStateCode s.drive.state),
    wordOfNat s.drive.drops, wordOfNat (holderCode s.reservation), wordOfNat (reservedBankCode s.reservation)]

/-- The STATE space, items 0..87 in order (Table 11-9). -/
def State.stateItems (s : State) : List Word :=
  s.itemsTracker ++ s.itemsJunctions ++ s.itemsSignal ++ s.itemsConditioner ++ s.itemsChannels ++ s.itemsBite ++
    s.itemsBanks

end Sys2Proof.Machine
end

