-- ==== Sys2Proof/Machine/Validation.lean ====
section
/-! DEFINITION. The validation of a bank (R137, Table 8-1) and of the Kelly Map (R41, Table 3-4). -/

namespace Sys2Proof.Machine

/-- x lies in lo..hi. -/
def within (x lo hi : Int) : Bool := decide (lo ≤ x) && decide (x ≤ hi)

/-! ## Bank validation -/

/-- The check of envelope torque Ti; points from n on are not checked (Table 8-1). -/
def checkTorque (b : Bank) (i : Nat) : Bool :=
  if envelopeCount b ≤ i then true
  else
    within (envelopeTorque b i) 0 2000 &&
      (if i = 0 then decide (envelopeTorque b 0 = 0) else decide (envelopeTorque b (i - 1) < envelopeTorque b i))

/-- The check of envelope speed Ni (Table 8-1). -/
def checkSpeed (b : Bank) (i : Nat) : Bool :=
  if envelopeCount b ≤ i then true else within (envelopeSpeed b i) 0 600

/-- The check of Table 8-1 of item i, which reads only the item and items of lower number (R137). -/
def checkBankItem (b : Bank) (i : Nat) : Bool :=
  let v := itemAt b i
  if i = 0 then within v 2 12
  else if i ≤ 24 then
    if i % 2 = 1 then checkTorque b ((i - 1) / 2) else checkSpeed b ((i - 2) / 2)
  else
    match i with
    | 25 => within v 0 2000
    | 26 => within v 0 2000 && decide (derateStart b < v)
    | 27 => within v 0 256
    | 28 => within v 1 2000
    | 29 => within v 0 600
    | 30 => within v 1 1000
    | 31 => within v 0 (stallTorque b - 1)
    | 32 | 33 | 34 | 35 | 36 | 37 => within v 1 2000
    | 38 | 39 | 40 => within v 0 2000
    | 41 | 42 => within v 0 600
    | 43 => within v 0 30000
    | 44 => within v 1 30000
    | 45 => within v 1 (headLimit b)
    | 46 => within v 1 3000
    | 47 => within v 100 30000
    | 48 => within v 0 3000
    | 49 | 53 | 57 => within v 0 1
    | 50 => within v 0 600
    | 54 | 58 => within v 0 2000
    | 51 => within v 0 600
    | 55 | 59 => within v 0 30000
    | 52 | 56 | 60 => within v 1 1000
    | 61 => within v 1 1000
    | 62 => within v 100 3000
    | _ => true

/-- The validation of a bank: the first item, in ascending number, that fails; none if the bank is valid (R137). -/
def bankFault (b : Bank) : Option Nat := (List.range 63).find? (fun i => !checkBankItem b i)

/-! ## Map validation -/

/-- One check of Table 3-4: whether it passes, its reason, and the item it reports. -/
structure MapCheck where
  passes : Bool
  reason : MapReason
  item : Nat
deriving DecidableEq, Repr

/-- Checks 1 and 2 (Tables 3-2, 3-4). -/
def generalChecks (m : MapItems) : List MapCheck :=
  [{ passes := within (mapSections m) 2 6, reason := .sections, item := 0 },
    { passes := within (headOffset m) (-30000) 30000, reason := .constant, item := 1 },
    { passes := within (nestWindow m) 0 500, reason := .constant, item := 2 },
    { passes := within (lockWindow m) 5 200, reason := .constant, item := 3 },
    { passes := within (deadband m) 0 100, reason := .constant, item := 4 },
    { passes := within (lockTorque m) 1 500, reason := .constant, item := 5 },
    { passes := within (torqueConstant m) 1 4000, reason := .constant, item := 6 },
    { passes := within (pushArea m) 1 2000, reason := .constant, item := 7 },
    { passes := within (pullArea m) 1 2000, reason := .constant, item := 8 }]

/-- The lock points of a junction in use, P1 first, as indices (R36). A count above 4 has failed check 5 before they are
read. -/
def usedLocks (m : MapItems) (k : Fin 5) : List Nat := List.range (min (lockPointCount m k).toNat 4)

/-- Check 6 for one lock point (Table 3-4): P1 is not compared. -/
def lockAscends (m : MapItems) (k : Fin 5) (i : Nat) : Bool :=
  decide (i = 0) || decide (lockPoint m k (i - 1) < lockPoint m k i)

/-- Check 7 for one lock point (Table 3-4). -/
def lockInWindow (m : MapItems) (k : Fin 5) (i : Nat) : Bool :=
  decide (nestWindow m + lockWindow m < lockPoint m k i) &&
    decide (lockPoint m k i < junctionTravel m k - lockWindow m)

/-- Checks 3 to 7 for junction k (Tables 3-3, 3-4). -/
def junctionChecks (m : MapItems) (k : Fin 5) : List MapCheck :=
  [{ passes := within (junctionTravel m k) 1000 20000, reason := .travel, item := junctionItem k 0 },
    { passes := within (ratingNested m k) 0 2000, reason := .rating, item := junctionItem k 1 },
    { passes := within (ratingLocked m k) 0 2000, reason := .rating, item := junctionItem k 2 },
    { passes := within (ratingFree m k) 0 2000, reason := .rating, item := junctionItem k 3 },
    { passes := within (lockPointCount m k) 0 4, reason := .lockCount, item := junctionItem k 4 }] ++
  ((usedLocks m k).map fun i => { passes := lockAscends m k i, reason := .lockOrder, item := junctionItem k (5 + i) }) ++
  ((usedLocks m k).map fun i => { passes := lockInWindow m k i, reason := .lockWindow, item := junctionItem k (5 + i) })

/-- All checks in the order of R41: the general ones, then junction 2 up to junction S. -/
def mapChecks (m : MapItems) : List MapCheck :=
  generalChecks m ++ (junctionsUsed m).flatMap (junctionChecks m)

/-- The validation of the map: the first check that fails; none if the map is valid (R41). -/
def mapFault (m : MapItems) : Option MapCheck := (mapChecks m).find? (fun c => !c.passes)

end Sys2Proof.Machine
end

