-- ==== Sys2Proof/Machine/Management.lean ====
section
/-! DEFINITION. The Management Agent: the checks of R147, the owners' answers, and the reply (R146, 09). -/

namespace Sys2Proof.Machine

/-! ## Replies -/

/-- A reply: its status and its data bytes (Table 11-5). -/
structure Reply where
  status : Status
  data : List Byte := []
deriving DecidableEq, Repr

/-- The state after a request and the reply to it. -/
structure Answer where
  state : State
  reply : Reply
deriving DecidableEq, Repr

/-- A reply that changes nothing. -/
def State.refuse (s : State) (status : Status) : Answer := { state := s, reply := { status := status } }

/-- The effect is taken and answered OK without data. -/
def State.accept (s : State) : Answer := { state := s, reply := { status := .ok } }

/-- A read is answered OK with its data. -/
def State.respond (s : State) (data : List Byte) : Answer := { state := s, reply := { status := .ok, data := data } }

/-- The data of a reply frame: code and status, tag, data bytes 2..7 (Table 11-3). -/
def replyData (code : Nat) (tag : Byte) (r : Reply) : List Byte :=
  [byteOf (code + 16 * statusCode r.status), tag] ++ padTo 6 r.data

/-- The reply is queued on the Cab Port for its manager (R146). -/
def State.sendReply (s : State) (m : Manager) (code : Nat) (tag : Byte) (r : Reply) : State :=
  s.queueCab (replyKind m) (replyData code tag r)

/-! ## READ (R148) -/

/-- The number of items of a space; none for a code that is no space (Table 9-2, Table 11-9). -/
def spaceSize : Nat → Option Nat
  | 0 => some 63
  | 1 => some 63
  | 2 => some 54
  | 3 => some 49
  | 4 => some 192
  | 5 => some 2
  | 6 => some 88
  | _ => none

/-- Item j of a slot's configuration as stored (R23, Table 11-8). -/
def SlotConfig.item (c : SlotConfig) : Nat → Word
  | 0 => wordOfNat c.lossTime
  | 1 => wordOf c.rmin
  | 2 => wordOf c.rmax
  | 3 => flagWord c.absEn
  | 4 => flagWord c.rngEn
  | 5 => wordOfNat (policyCode c.policy)
  | _ => wordOf c.subst

/-- A mapping position as its item (Table 11-8). -/
def Mapping.item (x : Mapping) : Word :=
  wordOfNat (x.slot.val + 16 * x.offset.val + 256 * signednessCode x.sign + 4096 * boolCode x.used)

/-- Item j of a routing entry as stored (Table 11-8). -/
def RouteEntry.item (e : RouteEntry) : Nat → Word
  | 0 => wordOfNat (256 * portCode e.port + routeClassCode e.cls)
  | 1 => e.ident.setWidth 16
  | 2 => e.maps[0].item
  | 3 => e.maps[1].item
  | 4 => e.maps[2].item
  | _ => e.maps[3].item

/-- Item i of a space, as stored or, for STATE, as it stands (R148). -/
def State.readItem (s : State) (space i : Nat) : Word :=
  match space with
  | 0 => s.banks.bankA[i]?.getD 0
  | 1 => s.banks.bankB[i]?.getD 0
  | 2 => s.kelly.items[i]?.getD 0
  | 3 => (s.signal.slot (Fin.ofNat 7 (i / 7))).cfg.item (i % 7)
  | 4 => s.routes[Fin.ofNat 32 (i / 6)].item (i % 6)
  | 5 => if i = 0 then wordOfNat s.link.cmdTimeout else wordOfNat s.link.statusPeriod
  | _ => s.stateItems.getD i 0

/-- READ after checks 1 and 2 of R147. -/
def State.serveRead (s : State) (space : Byte) (item : Word) : Answer :=
  match spaceSize space.toNat with
  | none => s.refuse .badRequest
  | some n =>
    if n ≤ item.toNat then s.refuse .badItem
    else s.respond (wordBytes (s.readItem space.toNat item.toNat))

/-! ## WRITE (R149) -/

/-- A stored foreign write to the reserved bank removes the reservation (R152). -/
def State.afterBankWrite (s : State) (m : Manager) (bank : BankId) : State :=
  match s.reservation with
  | some r => if r.bank = bank ∧ r.holder ≠ m then s.withReservation none else s
  | none => s

/-- A bank write (R136), then R152. -/
def State.writeBankItem (s : State) (m : Manager) (bank : BankId) (i : Nat) (v : Word) : Answer :=
  if bank = s.banks.active then s.refuse .activeBank
  else if s.banks.pendingSwitch then s.refuse .switchPending
  else
    ((s.withBanks (s.banks.withBank bank ((s.banks.bank bank).setIfInBounds i v))).afterBankWrite m bank).accept

/-- T or Fm recomputed on a stored write of KT, AP or AR (R39). -/
def State.refreshMapped (s : State) (i : Nat) : State :=
  if i = 6 then s.refreshTorque
  else if i = 7 ∨ i = 8 then s.refreshCrowd
  else s

/-- The tracker becomes UNMAPPED with its records at their full-reset values (R39). -/
def Tracker.unmap (t : Tracker) : Tracker := { t.withRecordsReset with mode := .unmapped, cause := none }

/-- The tracker change of a stored map write or a commit, where there is one, delivered to the Bite Engine (R39, R42,
R66). -/
def State.deliverTrackerChange (s : State) (before : TrackerMode) : State :=
  if s.tracker.mode = before then s else s.biteTrackerChange

/-- A map write (R38, R39). -/
def State.writeMapItem (s : State) (i : Nat) (v : Word) : Answer :=
  if s.tracker.mode = .tracking then s.refuse .mapInUse
  else
    let stored := (s.withKelly { items := s.kelly.items.setIfInBounds i v, committed := false }).withTracker
      s.tracker.unmap
    ((stored.deliverTrackerChange s.tracker.mode).refreshMapped i).accept

/-- A SIGNAL write (R24). -/
def State.writeSignalItem (s : State) (i : Nat) (v : Word) : Answer :=
  match s.writeSlotItem (Fin.ofNat 7 (i / 7)) (i % 7) v.toInt with
  | some t => t.accept
  | none => s.refuse .badValue

/-- A mapping position of a written value; none if it is out of range or has another bit set (R13, Table 11-8). -/
def mappingOfWord (v : Nat) : Option Mapping :=
  if hs : v % 8 < 7 then
    if ho : v / 16 % 8 < 7 then
      let x : Mapping :=
        { used := decide (v / 4096 % 2 = 1)
          slot := ⟨v % 8, hs⟩
          offset := ⟨v / 16 % 8, ho⟩
          sign := if v / 256 % 2 = 1 then .unsigned else .signed }
      if v = v % 8 + 16 * (v / 16 % 8) + 256 * (v / 256 % 2) + 4096 * (v / 4096 % 2) then some x else none
    else none
  else none

/-- A routing entry as it would stand after a write of item j; none if the value is out of range (R13). -/
def RouteEntry.edit (e : RouteEntry) (j : Nat) (v : Nat) : Option RouteEntry :=
  match j with
  | 0 =>
    match routeClassOfCode (v % 256) with
    | none => none
    | some c =>
      if v / 256 = 0 then some { e with port := .cab, cls := c }
      else if v / 256 = 1 then some { e with port := .drive, cls := c }
      else none
  | 1 => if v < 2048 then some { e with ident := BitVec.ofNat 11 v } else none
  | 2 => (mappingOfWord v).map fun x => { e with maps := e.maps.set 0 x }
  | 3 => (mappingOfWord v).map fun x => { e with maps := e.maps.set 1 x }
  | 4 => (mappingOfWord v).map fun x => { e with maps := e.maps.set 2 x }
  | 5 => (mappingOfWord v).map fun x => { e with maps := e.maps.set 3 x }
  | _ => none

/-- The entries 0..31. -/
def routeIds : List (Fin 32) := List.finRange 32

/-- Another entry that is not EMPTY has the same port and identifier (R13). -/
def State.routeTaken (s : State) (k : Fin 32) (e : RouteEntry) : Bool :=
  routeIds.any fun j =>
    decide (j ≠ k) && decide (s.routes[j].cls ≠ .empty) && decide (s.routes[j].port = e.port) &&
      decide (s.routes[j].ident = e.ident)

/-- A ROUTE write, the engine IDLE (R13). -/
def State.writeRouteItem (s : State) (i : Nat) (v : Word) : Answer :=
  let k := Fin.ofNat 32 (i / 6)
  match s.routes[k].edit (i % 6) v.toNat with
  | none => s.refuse .badValue
  | some e =>
    if e.cls ≠ .empty ∧ s.routeTaken k e then s.refuse .badValue
    else (s.withRoutes (s.routes.set k e)).accept

/-- A LINK write (R150). -/
def State.writeLinkItem (s : State) (i : Nat) (v : Word) : Answer :=
  if i = 0 then
    if 20 ≤ v.toInt ∧ v.toInt ≤ 1000 then (s.withLink { s.link with cmdTimeout := v.toNat }).accept
    else s.refuse .badValue
  else if 20 ≤ v.toInt ∧ v.toInt ≤ 5000 then (s.withLink { s.link with statusPeriod := v.toNat }).accept
  else s.refuse .badValue

/-- WRITE after checks 1 and 2 of R147: checks 3, 4 and 5, then the owner. -/
def State.serveWrite (s : State) (m : Manager) (space : Byte) (item value : Word) : Answer :=
  match spaceSize space.toNat with
  | none => s.refuse .badRequest
  | some n =>
    if n ≤ item.toNat then s.refuse .badItem
    else
      match space.toNat with
      | 0 => s.writeBankItem m .a item.toNat value
      | 1 => s.writeBankItem m .b item.toNat value
      | 2 => s.writeMapItem item.toNat value
      | 3 => s.writeSignalItem item.toNat value
      | 4 => if s.bite.state ≠ .idle then s.refuse .engineBusy else s.writeRouteItem item.toNat value
      | 5 => s.writeLinkItem item.toNat value
      | _ => s.refuse .badItem

/-! ## OPEN, SWITCH, CANCEL, COMMIT_MAP -/

/-- OPEN (R151). -/
def State.serveOpen (s : State) (m : Manager) (bank : Byte) : Answer :=
  match bankOfCode bank.toNat with
  | none => s.refuse .badValue
  | some named =>
    if s.banks.pendingSwitch then s.refuse .switchPending
    else if named = s.banks.active then s.refuse .activeBank
    else (s.withReservation (some { holder := m, bank := named })).accept

/-- The sender holds the load reservation (check 6 of R147). -/
def State.isHolder (s : State) (m : Manager) : Bool :=
  match s.reservation with
  | some r => decide (r.holder = m)
  | none => false

/-- SWITCH (R138, R139). -/
def State.serveSwitch (s : State) (m : Manager) : Answer :=
  if !s.isHolder m then s.refuse .notHolder
  else if s.banks.pendingSwitch then s.refuse .deferred
  else
    match bankFault (s.banks.bank (otherBank s.banks.active)) with
    | some i => { state := s, reply := { status := .bankInvalid, data := wordBytes (wordOfNat i) } }
    | none =>
      if s.bite.state = .cut then
        { state := s.withBanks { s.banks with pendingSwitch := true }, reply := { status := .deferred } }
      else s.switchBanks.accept

/-- CANCEL (R142). -/
def State.serveCancel (s : State) (m : Manager) : Answer :=
  if !s.isHolder m then s.refuse .notHolder
  else if s.banks.pendingSwitch then (s.withBanks { s.banks with pendingSwitch := false }).accept
  else s.refuse .notFound

/-- A successful commit (R42). -/
def State.commitMap (s : State) : State :=
  ((s.withKelly { s.kelly with committed := true }).withTracker { s.tracker with mode := .seeking, cause := none }
    ).deliverTrackerChange s.tracker.mode

/-- COMMIT_MAP (R40 to R43). -/
def State.serveCommit (s : State) : Answer :=
  if s.tracker.mode = .tracking then s.refuse .mapInUse
  else
    match mapFault s.kelly.items with
    | some c =>
      { state := s
        reply := { status := .mapInvalid, data := byteOf (mapReasonCode c.reason) :: wordBytes (wordOfNat c.item) } }
    | none => s.commitMap.accept

/-! ## ACK -/

/-- The cause is still active (R163). -/
def State.stillActive (s : State) (c : Cause) : Bool :=
  match c with
  | .stopLine => decide (s.chan.stopLine = .asserted)
  | .driveLinkDown => decide (s.drive.state = .offline)
  | _ => false

/-- The latch of a removed cause is cleared (R109). -/
def State.clearLatch (s : State) (c : Cause) : State :=
  match c with
  | .notFollowing ch => s.withChan (s.chan.withFollow ch Follow.rest)
  | .kellyOverload => s.withChan { s.chan with overloadLatch := false, overloadCount := 0 }
  | _ => s

/-- The record of a cause is removed and trip pending judged again (R163). -/
def FaultMonitor.remove (m : FaultMonitor) (c : Cause) : FaultMonitor :=
  let kept := m.queue.filter (fun r => decide (r.cause ≠ c))
  { m with
    queue := kept
    tripPending := if c.cls = .t ∧ ¬ hasClass .t kept then false else m.tripPending }

/-- ACK (R163). -/
def State.serveAck (s : State) (code : Byte) : Answer :=
  match causeOfCode code.toNat with
  | none => s.refuse .badValue
  | some c =>
    if !s.faults.holds c then s.refuse .notFound
    else if s.stillActive c then s.refuse .stillActive
    else ((s.withFaults (s.faults.remove c)).clearLatch c).accept

/-! ## FAULT_READ and BITE_READ -/

/-- A part of a fault record (Table 11-5). -/
def FaultRecord.part (r : FaultRecord) (part : Nat) : List Byte :=
  if part = 0 then
    [byteOf (causeCode r.cause), byteOf (faultClassCode r.cls), byteOf (boolCode r.contextValid), byteOf r.count] ++
      wordBytes (wordOfNat r.time)
  else
    [byteOf (causeCode r.cause), r.seq, byteOf (biteStateCode r.bite), byteOf (trackerModeCode r.tracker)] ++
      wordBytes (wordOf r.tip)

/-- FAULT_READ (R166). -/
def State.serveFaultRead (s : State) (part : Byte) : Answer :=
  if 1 < part.toNat then s.refuse .badValue
  else
    match s.faults.queue with
    | [] => s.refuse .notFound
    | r :: _ => s.respond (r.part part.toNat)

/-- A part of a bite record, each value limited to its reply width (R170, Table 11-5). -/
def BiteRecord.part (r : BiteRecord) (part : Nat) : List Byte :=
  if part = 0 then
    wordBytes (wordOf r.d0) ++ wordBytes (wordOf r.hw) ++
      wordBytes (wordOfNat (r.bl.toNat % 4096 + 4096 * (r.number % 16)))
  else
    wordBytes (wordOfNat (min r.peakPush.toNat 4095 + 4096 * (r.number % 16))) ++
      wordBytes (wordOfNat (min r.peakT.toNat 2047 + 2048 * min r.regrips 15 + 32768 * outcomeCode r.outcome)) ++
      wordBytes (wordOfNat (min r.duration 8191 + 8192 * min r.jams 7))

/-- BITE_READ (R131). -/
def State.serveBiteRead (s : State) (index part : Byte) : Answer :=
  if 7 < index.toNat ∨ 1 < part.toNat then s.refuse .badValue
  else
    match s.bite.log[index.toNat]? with
    | none => s.refuse .notFound
    | some r => s.respond (r.part part.toNat)

/-! ## CHANNEL_MODE and LINK_MODE -/

/-- The hold target after a change of mode (R75, R98). -/
def holdAfter (before after : ChannelMode) (hold : Option Int) (prev : Int) : Option Int :=
  match before, after with
  | .hold, .hold => hold
  | _, .hold => some prev
  | _, _ => none

/-- A channel takes a mode (R98). -/
def State.changeMode (s : State) (c : Channel) (mode : ChannelMode) : State :=
  (s.withCond
    { s.cond with
      hold := s.cond.hold.set c (holdAfter (s.chan.mode.get c) mode (s.cond.hold.get c) (s.cond.prev.get c)) }
    ).withChan { s.chan with mode := s.chan.mode.set c mode }

/-- CHANNEL_MODE (R98). -/
def State.serveChannelMode (s : State) (channel mode : Byte) : Answer :=
  match channelOfCode channel.toNat, channelModeOfCode mode.toNat with
  | some c, some x => (s.changeMode c x).accept
  | _, _ => s.refuse .badValue

/-- LINK_MODE (R102, R90). -/
def State.serveLinkMode (s : State) (mode : Byte) : Answer :=
  match linkModeOfCode mode.toNat with
  | none => s.refuse .badValue
  | some x =>
    if x = s.chan.linkMode then s.accept
    else if s.bite.state ≠ .idle then s.refuse .engineBusy
    else ((s.withChan { s.chan with linkMode := x }).withPrev zeroSetpoints).accept

/-! ## The agent -/

/-- A request answered in LOCKOUT (check 2 of R147). -/
def isReadRequest : Request → Bool
  | .read _ _ | .faultRead _ | .biteRead _ _ => true
  | .write _ _ _ | .openBank _ | .switch | .cancel | .commitMap | .ack _ | .channelMode _ _ | .linkMode _ | .restart =>
    false

/-- A request after check 2: the remaining checks and the owner. -/
def State.serve (s : State) (m : Manager) : Request → Answer
  | .read space item => s.serveRead space item
  | .write space item value => s.serveWrite m space item value
  | .openBank bank => s.serveOpen m bank
  | .switch => s.serveSwitch m
  | .cancel => s.serveCancel m
  | .commitMap => s.serveCommit
  | .ack cause => s.serveAck cause
  | .faultRead part => s.serveFaultRead part
  | .biteRead index part => s.serveBiteRead index part
  | .channelMode channel mode => s.serveChannelMode channel mode
  | .linkMode mode => s.serveLinkMode mode
  | .restart => s.restart.accept

/-- Check 2 of R147, then the request. -/
def State.guarded (s : State) (m : Manager) (r : Request) : Answer :=
  if s.governor = .lockout ∧ ¬ isReadRequest r then s.refuse .lockedOut else s.serve m r

/-- A request is taken whole and answered by one reply (R146). -/
def State.takeRequest (s : State) (m : Manager) (tag : Byte) (r : Request) : State :=
  let answer := s.guarded m r
  answer.state.sendReply m r.code tag answer.reply

/-- A request frame is taken: check 1 of R147 first (R146). -/
def State.takeRequestFrame (s : State) (m : Manager) (data : List Byte) : State :=
  match decodeRequest data with
  | some r => s.takeRequest m (requestTag data) r
  | none => s.sendReply m (requestCode data) (requestTag data) { status := .badRequest }

end Sys2Proof.Machine
end

