-- ==== Sys2Proof/Machine/LinkCommands.lean ====
section
/-! DEFINITION. The meanings of the link events: FRAME_ARRIVAL, DRIVE_COMMAND, TRANSMIT_COMPLETION, TRANSMIT_FAILURE,
BUS_RECOVERED (01). -/

namespace Sys2Proof.Machine

/-- The 16-bit value a mapping reads at its offset (R15). -/
def Mapping.value (x : Mapping) (data : List Byte) : Int :=
  match x.sign with
  | .signed => (wordAt data x.offset.val).toInt
  | .unsigned => min ((wordAt data x.offset.val).toNat : Int) 32767

/-- One mapping position of a matched SAMPLE entry: unused, skipped with BAD_SAMPLE, or handed to its slot (R15). -/
def State.takeMapping (data : List Byte) (s : State) (x : Mapping) : State :=
  if !x.used then s
  else if data.length ≤ x.offset.val + 1 then s.record .badSample
  else s.takeSample x.slot (x.value data)

/-- The samples of a frame matched by a SAMPLE entry, in position order (R15). -/
def State.takeSamples (s : State) (e : RouteEntry) (data : List Byte) : State :=
  [e.maps[0], e.maps[1], e.maps[2], e.maps[3]].foldl (State.takeMapping data) s

/-- The entry that matches a port of arrival and an identifier (R14). -/
def State.matchRoute (s : State) (port : PortId) (id : Ident) : Option RouteEntry :=
  (routeIds.map fun k => s.routes[k]).find? fun e =>
    decide (e.cls ≠ .empty) && decide (e.port = port) && decide (e.ident = id)

/-- A foreign frame is disposed of as the Routing Table says (R14, R15, R8). -/
def State.routeFrame (s : State) (port : PortId) (f : Frame) : State :=
  match s.matchRoute port f.ident with
  | none => s.forward port f
  | some e =>
    match e.cls with
    | .empty | .pass => s.forward port f
    | .block => s
    | .sample => (s.takeSamples e f.data).forward port f

/-- A frame is compared with the own identifiers, then looked up (R3). -/
def State.arrive (s : State) (port : PortId) (f : Frame) : State :=
  if f.ident = driveCommandIdent s.node then
    match port with
    | .cab => s.takeCommand f.data
    | .drive => s.record .idConflict
  else
    match managerOfIdent s.node f.ident with
    | some m =>
      match port with
      | .cab => s.takeRequestFrame m f.data
      | .drive => s.record .idConflict
    | none => if isOutputIdent s.node f.ident then s.record .idConflict else s.routeFrame port f

/-- A port's link failure is reported (R10). -/
def State.reportLinkDown (s : State) : PortId → State
  | .cab => s.record .cabLinkDown
  | .drive => s.reportTrip .driveLinkDown

/-- FRAME_ARRIVAL (R3). -/
def execFrameArrival (port : PortId) (ident : Ident) (data : List Byte) (s : State) :
    Host.Outcome State Fault Refusal :=
  .next (s.arrive port { ident := ident, data := data })

/-- DRIVE_COMMAND (R4). -/
def execDriveCommand (data : List Byte) (s : State) : Host.Outcome State Fault Refusal :=
  .next (s.takeCommand data)

/-- TRANSMIT_COMPLETION (R9). -/
def execTransmitCompletion (port : PortId) (s : State) : Host.Outcome State Fault Refusal :=
  .next (s.withPort port (s.port port).complete)

/-- TRANSMIT_FAILURE (R10). -/
def execTransmitFailure (port : PortId) (s : State) : Host.Outcome State Fault Refusal :=
  match (s.port port).state with
  | .offline => .next s
  | .online => .next ((s.withPort port (s.port port).fail).reportLinkDown port)

/-- BUS_RECOVERED (R11). -/
def execBusRecovered (port : PortId) (s : State) : Host.Outcome State Fault Refusal :=
  .next (s.withPort port (s.port port).recover)

end Sys2Proof.Machine
end

