-- ==== Sys2Proof/Machine/RequestCommands.lean ====
section
/-! DEFINITION. The meanings of the management requests: each is taken and answered by the Management Agent (R146). -/

namespace Sys2Proof.Machine

/-- READ (R148). -/
def execRead (m : Manager) (tag : Byte) (space : Byte) (item : Word) (s : State) :
    Host.Outcome State Fault Refusal :=
  .next (s.takeRequest m tag (.read space item))

/-- WRITE (R149). -/
def execWrite (m : Manager) (tag : Byte) (space : Byte) (item value : Word) (s : State) :
    Host.Outcome State Fault Refusal :=
  .next (s.takeRequest m tag (.write space item value))

/-- WRITE_BANK (R136, R152): space 0 or 1. -/
def execWriteBank (m : Manager) (tag : Byte) (bank : BankId) (item value : Word) (s : State) :
    Host.Outcome State Fault Refusal :=
  .next (s.takeRequest m tag (.write (byteOf (bankCode bank)) item value))

/-- WRITE_MAP (R38): space 2. -/
def execWriteMap (m : Manager) (tag : Byte) (item value : Word) (s : State) :
    Host.Outcome State Fault Refusal :=
  .next (s.takeRequest m tag (.write 2 item value))

/-- WRITE_SIGNAL (R24): space 3. -/
def execWriteSignal (m : Manager) (tag : Byte) (item value : Word) (s : State) :
    Host.Outcome State Fault Refusal :=
  .next (s.takeRequest m tag (.write 3 item value))

/-- WRITE_ROUTE (R13): space 4. -/
def execWriteRoute (m : Manager) (tag : Byte) (item value : Word) (s : State) :
    Host.Outcome State Fault Refusal :=
  .next (s.takeRequest m tag (.write 4 item value))

/-- WRITE_LINK (R150): space 5. -/
def execWriteLink (m : Manager) (tag : Byte) (item value : Word) (s : State) :
    Host.Outcome State Fault Refusal :=
  .next (s.takeRequest m tag (.write 5 item value))

/-- OPEN (R151). -/
def execOpenBank (m : Manager) (tag : Byte) (bank : Byte) (s : State) :
    Host.Outcome State Fault Refusal :=
  .next (s.takeRequest m tag (.openBank bank))

/-- SWITCH (R139). -/
def execSwitch (m : Manager) (tag : Byte) (s : State) :
    Host.Outcome State Fault Refusal :=
  .next (s.takeRequest m tag .switch)

/-- CANCEL (R142). -/
def execCancel (m : Manager) (tag : Byte) (s : State) :
    Host.Outcome State Fault Refusal :=
  .next (s.takeRequest m tag .cancel)

/-- COMMIT_MAP (R40). -/
def execCommitMap (m : Manager) (tag : Byte) (s : State) :
    Host.Outcome State Fault Refusal :=
  .next (s.takeRequest m tag .commitMap)

/-- ACK (R163). -/
def execAck (m : Manager) (tag : Byte) (cause : Byte) (s : State) :
    Host.Outcome State Fault Refusal :=
  .next (s.takeRequest m tag (.ack cause))

/-- FAULT_READ (R166). -/
def execFaultRead (m : Manager) (tag : Byte) (part : Byte) (s : State) :
    Host.Outcome State Fault Refusal :=
  .next (s.takeRequest m tag (.faultRead part))

/-- BITE_READ (R131). -/
def execBiteRead (m : Manager) (tag : Byte) (index part : Byte) (s : State) :
    Host.Outcome State Fault Refusal :=
  .next (s.takeRequest m tag (.biteRead index part))

/-- CHANNEL_MODE (R98). -/
def execChannelMode (m : Manager) (tag : Byte) (channel mode : Byte) (s : State) :
    Host.Outcome State Fault Refusal :=
  .next (s.takeRequest m tag (.channelMode channel mode))

/-- LINK_MODE (R102). -/
def execLinkMode (m : Manager) (tag : Byte) (mode : Byte) (s : State) :
    Host.Outcome State Fault Refusal :=
  .next (s.takeRequest m tag (.linkMode mode))

/-- RESTART (R154). -/
def execRestart (m : Manager) (tag : Byte) (s : State) :
    Host.Outcome State Fault Refusal :=
  .next (s.takeRequest m tag .restart)

end Sys2Proof.Machine
end

