-- ==== Sys2Proof/Machine/TimerCommands.lean ====
section
/-! DEFINITION. The meanings of the timer expiries, and the millisecond in which nothing is commanded. -/

namespace Sys2Proof.Machine

/-! ## Expiries -/

/-- The command absence timer runs out (R6). Its four effects are taken in the order R6 lists them (log entries 12 and
21). -/
def State.commandAbsent (s : State) : State :=
  (((s.withCommandTimer s.link.cmdTimeout).zeroFrame).record .cmdAbsent).biteOutsideAbort

/-- The absence timer of a slot runs out (R20). -/
def State.slotAbsent (s : State) (i : SlotId) : State := s.judgeSlot i (s.signal.slot i).absenceExpired

/-- The no-progress timer runs out; it runs in CUT alone (R120). That the exit's report, and with it a pending switch, comes
before the BITE_JAM report is the model's choice (log entry 23). -/
def State.noProgress (s : State) : State :=
  match s.bite.state with
  | .cut => (s.enterJammed .biteJam).record .biteJam
  | .idle | .engage | .regrip | .settle | .jammed => s

/-- The settle timer runs out; it runs in SETTLE alone (R122). -/
def State.settleOver (s : State) : State :=
  match s.bite.state with
  | .settle => s.biteEnd .done
  | .idle | .engage | .cut | .regrip | .jammed => s

/-- The status timer runs out: it is re-armed and a status frame is queued (R165). -/
def State.sendStatus (s : State) : State :=
  (s.withStatusTimer s.link.statusPeriod).queueCab .status s.statusData

/-- COMMAND_ABSENCE_EXPIRY (R6). -/
def execCommandAbsenceExpiry (s : State) : Host.Outcome State Fault Refusal := .next s.commandAbsent

/-- ABSENCE_TIMER_EXPIRY (R20). -/
def execAbsenceTimerExpiry (slot : SlotId) (s : State) : Host.Outcome State Fault Refusal := .next (s.slotAbsent slot)

/-- NO_PROGRESS_EXPIRY (R120). -/
def execNoProgressExpiry (s : State) : Host.Outcome State Fault Refusal := .next s.noProgress

/-- SETTLE_TIMER_EXPIRY (R122). -/
def execSettleTimerExpiry (s : State) : Host.Outcome State Fault Refusal := .next s.settleOver

/-- STATUS_TIMER_EXPIRY (R165). -/
def execStatusTimerExpiry (s : State) : Host.Outcome State Fault Refusal := .next s.sendStatus

/-! ## A millisecond passes -/

/-- The part's timers. -/
inductive TimerId where
  | command
  | slot (i : SlotId)
  | progress
  | settle
  | status
deriving DecidableEq, Repr

/-- The timers of the part. -/
def timerIds : List TimerId :=
  [.command, .slot 0, .slot 1, .slot 2, .slot 3, .slot 4, .slot 5, .slot 6, .progress, .settle, .status]

/-- The number by which the free order of log entry 4 knows a timer. -/
def timerNumber : TimerId → Nat
  | .command => 0
  | .slot i => 1 + i.val
  | .progress => 8
  | .settle => 9
  | .status => 10

/-- An absence timer one millisecond on. -/
def AbsenceTimer.tick : AbsenceTimer → AbsenceTimer
  | .running left => .running (left - 1)
  | .expired => .expired

/-- A slot one millisecond on. -/
def Slot.tick (r : Slot) : Slot := { r with timer := r.timer.tick }

/-- The slots one millisecond on. -/
def SignalStore.tick (g : SignalStore) : SignalStore :=
  { g with
    slots := #v[(g.slot 0).tick, (g.slot 1).tick, (g.slot 2).tick, (g.slot 3).tick, (g.slot 4).tick, (g.slot 5).tick,
      (g.slot 6).tick] }

/-- The bite timers one millisecond on. -/
def BiteEngine.tick (b : BiteEngine) : BiteEngine :=
  { b with progressTimer := b.progressTimer.map (· - 1), settleTimer := b.settleTimer.map (· - 1) }

/-- The timebase one millisecond on, every running timer counted down. -/
def State.countDown (s : State) : State :=
  ((((s.withClock (s.clock + 1)).withCommandTimer (s.commandTimer - 1)).withStatusTimer (s.statusTimer - 1)
    ).withSignal s.signal.tick).withBite s.bite.tick

/-- A timer has run out and its expiry is still to be taken. -/
def State.timerDue (s : State) : TimerId → Bool
  | .command => decide (s.commandTimer = 0)
  | .slot i => decide ((s.signal.slot i).timer = .running 0)
  | .progress => decide (s.bite.progressTimer = some 0)
  | .settle => decide (s.bite.settleTimer = some 0)
  | .status => decide (s.statusTimer = 0)

/-- The expiry of a timer is taken. -/
def State.timerExpiry (s : State) : TimerId → State
  | .command => s.commandAbsent
  | .slot i => s.slotAbsent i
  | .progress => s.noProgress
  | .settle => s.settleOver
  | .status => s.sendStatus

/-- A timer found due is taken; one that an earlier expiry of the same millisecond stopped is not. -/
def State.takeIfDue (s : State) (t : TimerId) : State := if s.timerDue t then s.timerExpiry t else s

/-- A timer put into a list by its rank. -/
def insertByRank (rank : TimerId → Nat) (t : TimerId) : List TimerId → List TimerId
  | [] => [t]
  | u :: us => if rank t ≤ rank u then t :: u :: us else u :: insertByRank rank t us

/-- A list of timers by rank. -/
def sortByRank (rank : TimerId → Nat) : List TimerId → List TimerId
  | [] => []
  | t :: ts => insertByRank rank t (sortByRank rank ts)

/-- The timers that run out now, in the free order of the part (log entry 4). -/
def State.dueTimers (s : State) : List TimerId :=
  sortByRank (fun t => Config.expiryRank s.clock (timerNumber t)) (timerIds.filter s.timerDue)

/-- One millisecond with no command: time passes, and the timers that run out are taken (log entry 3). -/
def State.tick (s : State) : State :=
  s.countDown.dueTimers.foldl State.takeIfDue s.countDown

end Sys2Proof.Machine
end

