-- ==== Sys2Proof/Machine/Dispatch.lean ====
section
/-! DEFINITION. One arm per command. -/

namespace Sys2Proof.Machine

def exec (i : Instr) (s : State) : Host.Outcome State Fault Refusal :=
  match i with
  | .fullReset straps stop => Sys2Proof.Machine.execFullReset straps stop s
  | .frameArrival port ident data => Sys2Proof.Machine.execFrameArrival port ident data s
  | .driveCommand data => Sys2Proof.Machine.execDriveCommand data s
  | .transmitCompletion port => Sys2Proof.Machine.execTransmitCompletion port s
  | .transmitFailure port => Sys2Proof.Machine.execTransmitFailure port s
  | .busRecovered port => Sys2Proof.Machine.execBusRecovered port s
  | .commandAbsenceExpiry => Sys2Proof.Machine.execCommandAbsenceExpiry s
  | .absenceTimerExpiry slot => Sys2Proof.Machine.execAbsenceTimerExpiry slot s
  | .noProgressExpiry => Sys2Proof.Machine.execNoProgressExpiry s
  | .settleTimerExpiry => Sys2Proof.Machine.execSettleTimerExpiry s
  | .statusTimerExpiry => Sys2Proof.Machine.execStatusTimerExpiry s
  | .stopAsserted => Sys2Proof.Machine.execStopAsserted s
  | .stopReleased => Sys2Proof.Machine.execStopReleased s
  | .read m tag space item => Sys2Proof.Machine.execRead m tag space item s
  | .write m tag space item value => Sys2Proof.Machine.execWrite m tag space item value s
  | .writeBank m tag bank item value => Sys2Proof.Machine.execWriteBank m tag bank item value s
  | .writeMap m tag item value => Sys2Proof.Machine.execWriteMap m tag item value s
  | .writeSignal m tag item value => Sys2Proof.Machine.execWriteSignal m tag item value s
  | .writeRoute m tag item value => Sys2Proof.Machine.execWriteRoute m tag item value s
  | .writeLink m tag item value => Sys2Proof.Machine.execWriteLink m tag item value s
  | .openBank m tag bank => Sys2Proof.Machine.execOpenBank m tag bank s
  | .switch m tag => Sys2Proof.Machine.execSwitch m tag s
  | .cancel m tag => Sys2Proof.Machine.execCancel m tag s
  | .commitMap m tag => Sys2Proof.Machine.execCommitMap m tag s
  | .ack m tag cause => Sys2Proof.Machine.execAck m tag cause s
  | .faultRead m tag part => Sys2Proof.Machine.execFaultRead m tag part s
  | .biteRead m tag index part => Sys2Proof.Machine.execBiteRead m tag index part s
  | .channelMode m tag channel mode => Sys2Proof.Machine.execChannelMode m tag channel mode s
  | .linkMode m tag mode => Sys2Proof.Machine.execLinkMode m tag mode s
  | .restart m tag => Sys2Proof.Machine.execRestart m tag s

end Sys2Proof.Machine
end

