-- ==== Sys2Proof/Safety.lean ====
section
/-! DEFINITION. What the claims speak of: which blocks a command leaves alone, what a reply looks like, and the
invariants of each block that every step keeps. -/

namespace Sys2Proof.Machine

/-! ## Frames of a command -/

/-- The blocks of the state, as the frame statements name them. -/
inductive Block where
  | stopInput
  | node
  | clock
  | lastSeq
  | commandTimer
  | statusTimer
  | link
  | cab
  | drive
  | routes
  | signal
  | kelly
  | tracker
  | cond
  | chan
  | bite
  | banks
  | reservation
  | faults
deriving DecidableEq, Repr

/-- Two states hold the same in a block. -/
def sameBlock (s t : State) : Block → Prop
  | .stopInput => t.stopInput = s.stopInput
  | .node => t.node = s.node
  | .clock => t.clock = s.clock
  | .lastSeq => t.lastSeq = s.lastSeq
  | .commandTimer => t.commandTimer = s.commandTimer
  | .statusTimer => t.statusTimer = s.statusTimer
  | .link => t.link = s.link
  | .cab => t.cab = s.cab
  | .drive => t.drive = s.drive
  | .routes => t.routes = s.routes
  | .signal => t.signal = s.signal
  | .kelly => t.kelly = s.kelly
  | .tracker => t.tracker = s.tracker
  | .cond => t.cond = s.cond
  | .chan => t.chan = s.chan
  | .bite => t.bite = s.bite
  | .banks => t.banks = s.banks
  | .reservation => t.reservation = s.reservation
  | .faults => t.faults = s.faults

/-- Nothing differs but the named blocks: no other block, and no command that waits. -/
def unchangedExcept (changed : List Block) (s t : State) : Prop :=
  t.pending = s.pending ∧ ∀ b : Block, b ∉ changed → sameBlock s t b

/-- The reply queued on the Cab Port: code and status, the tag, and the data bytes, unassigned bytes 0 (Table 11-3). -/
def repliedWith (s t : State) (m : Manager) (code : Nat) (tag : Byte) (status : Status) (data : List Byte) : Prop :=
  t.cab = s.cab.queueOwn
    (ownFrame s.node (replyKind m) ([byteOf (code + 16 * statusCode status), tag] ++ padTo 6 data))

/-- The governor is not in LOCKOUT (check 2 of R147). -/
def notLockedOut (s : State) : Prop := s.faults.lockout = false

/-- The row of the table that a timer's expiry is. -/
def expiryRow : TimerId → Instr
  | .command => .commandAbsenceExpiry
  | .slot i => .absenceTimerExpiry i
  | .progress => .noProgressExpiry
  | .settle => .settleTimerExpiry
  | .status => .statusTimerExpiry

/-- The bite log after a record was appended: the oldest of 8 is dropped (R130). -/
def logAppended (before after : List BiteRecord) (r : BiteRecord) : Prop :=
  (before.length < 8 → after = before ++ [r]) ∧ (before.length = 8 → after = before.tail ++ [r])

/-- A switch has taken effect, or the banks and the reservation stand as they were (R126, R140, R141). -/
def switchedIf (p : Bool) (s t : State) : Prop :=
  if p then
    t.banks = { s.banks with active := otherBank s.banks.active, activeValid := true, pendingSwitch := false } ∧
      t.reservation = none
  else t.banks = s.banks ∧ t.reservation = s.reservation

/-! ## Words of a frame and forwarded frames (R169, R8) -/

/-- The word at byte offset i of a frame's data, byte i the less significant (R169). -/
def dataWord (data : List Byte) (i : Nat) : Word := data.getD (i + 1) 0 ++ data.getD i 0

/-- The lowest identifier of a queue, the earliest queued among equals, is on offer, and the rest waits in its order
(R9). -/
def lowestOffered (queue : List Queued) (after : Port) : Prop :=
  ∃ pre x post, queue = pre ++ x :: post ∧ after.offer = some x ∧ after.waiting = pre ++ post ∧
    (∀ y ∈ pre, x.frame.ident.toNat < y.frame.ident.toNat) ∧
    ∀ y ∈ post, x.frame.ident.toNat ≤ y.frame.ident.toNat

/-- A port before and after a frame was forwarded to it: queued unchanged if the port is ONLINE with a forwarded place
free, of which it has `places`, and otherwise discarded and counted, saturating (R8, R11). Queued, it waits while a frame is on
offer, and else the lowest identifier goes on offer (R9). -/
def forwardedTo (places : Nat) (before after : Port) (f : Frame) : Prop :=
  let room := (before.held.filter (fun q => decide (q.kind = .forwarded))).length < places
  after.state = before.state ∧
  (before.state = .online ∧ room →
    let queue : List Queued := before.waiting ++ [{ kind := .forwarded, frame := f }]
    after.drops = before.drops ∧ (before.offer ≠ none → after.offer = before.offer ∧ after.waiting = queue) ∧
      (before.offer = none → lowestOffered queue after)) ∧
  (¬ (before.state = .online ∧ room) → after = { before with drops := min (before.drops + 1) 65535 })

/-! ## Frames that carry samples (R14, R15, R18, R19) -/

/-- The own identifiers (Table 1-2): inputs and outputs. -/
def isOwnIdent (node : BitVec 4) (id : Ident) : Bool :=
  decide (id = driveCommandIdent node) || (managerOfIdent node id).isSome || isOutputIdent node id

/-- The frame is foreign, and the one entry that matches it is a SAMPLE entry whose one used mapping fits the data and
hands the value v to slot i. -/
def carriesSample (s : State) (port : PortId) (id : Ident) (data : List Byte) (i : SlotId) (v : Int) : Prop :=
  isOwnIdent s.node id = false ∧
  ∃ (e : RouteEntry) (p : Fin 4), s.matchRoute port id = some e ∧ e.cls = .sample ∧
    (∀ q : Fin 4, e.maps[q].used = true ↔ q = p) ∧ e.maps[p].slot = i ∧
    e.maps[p].offset.val + 1 < data.length ∧ e.maps[p].value data = v

/-- One mapping position of a SAMPLE entry, before and after: unused, it changes nothing; past the frame's data, it is
skipped with one BAD_SAMPLE; else its value is one sample to its slot (R15). -/
def mappingTaken (data : List Byte) (x : Mapping) (s t : State) : Prop :=
  (x.used = false → t = s) ∧
  (x.used = true → data.length ≤ x.offset.val + 1 → t = s.record .badSample) ∧
  (x.used = true → x.offset.val + 1 < data.length → t = s.takeSample x.slot (x.value data))

/-- The slot accepts a sample of value v (R19). -/
def acceptsSample (i : SlotId) (v : Int) (c : SlotConfig) : Prop :=
  outsideRange i (inSlotUnit i v) c = false ∨ c.rngEn = false

/-- The effective value an accepted sample gives (R22). -/
def sampledValue (i : SlotId) (v : Int) : Int := limitPlausible i (inSlotUnit i v)

/-- The effective value of a slot once slot i has accepted a sample of value v. -/
def effectiveWith (s : State) (i : SlotId) (v : Int) (j : SlotId) : Int :=
  if j = i then sampledValue i v else s.effective j

/-- The measured extension once slot i has accepted a sample of value v (R50). -/
def extensionWith (s : State) (i : SlotId) (v : Int) : Int :=
  effectiveWith s i v 6 - effectiveWith s i v 5 - headOffset s.kelly.items

/-- The torque estimate once slot i has accepted a sample of value v (R27). -/
def torqueWith (s : State) (i : SlotId) (v : Int) : Int :=
  truncDiv ((effectiveWith s i v 1 - effectiveWith s i v 2) * torqueConstant s.kelly.items) 10000

/-- The measured crowd force once slot i has accepted a sample of value v (R28). -/
def crowdWith (s : State) (i : SlotId) (v : Int) : Int :=
  truncDiv (effectiveWith s i v 3 * pushArea s.kelly.items - effectiveWith s i v 4 * pullArea s.kelly.items) 1000

/-! ## Numbers of channels -/

/-- The channel's number in its code table and in the items that come one for each channel (Tables 11-7, 11-9). -/
def channelNumber : Channel → Nat
  | .rotary => 0
  | .crowd => 1
  | .winch => 2

/-! ## Drive setpoint frames on the drive link (R91, R104 to R106) -/

/-- The first of the four drive-following items of a channel: EN, FMIN, FDELTA, FCOUNT (Table 8-1). -/
def followItem : Channel → Nat
  | .rotary => 49
  | .crowd => 53
  | .winch => 57

/-- The slot whose effective value shows a channel's motion (Table 6-1). -/
def motionSlot : Channel → SlotId
  | .rotary => 0
  | .crowd => 5
  | .winch => 6

/-- The drive follows (R105), `delta` being FDELTA and `pos` the effective value of the channel's sensor. -/
def following (c : Channel) (delta pos : Int) (f : Follow) : Prop :=
  match c with
  | .rotary => delta ≤ |pos|
  | .crowd | .winch => 0 < f.count ∧ delta ≤ |pos - f.ref.getD 0|

/-- One channel's monitor before and after a drive setpoint frame that carries x for it (R104 to R106). `b` is the active
bank and `valid` the active-valid flag as the frame is handed. -/
def monitored (valid : Bool) (b : Bank) (c : Channel) (x pos : Int) (before after : Follow) : Prop :=
  let counted : Prop := valid = true ∧ itemAt b (followItem c) = 1 ∧ before.latch = false ∧
    itemAt b (followItem c + 1) ≤ |x| ∧ ¬ following c (itemAt b (followItem c + 2)) pos before
  (¬ counted → after = { latch := before.latch, count := 0, ref := none }) ∧
  (counted → itemAt b (followItem c + 3) ≤ before.count + 1 → after = { latch := true, count := 0, ref := none }) ∧
  (counted → (before.count : Int) + 1 < itemAt b (followItem c + 3) → after =
    { latch := false, count := before.count + 1
      ref := if c = .rotary then none else if before.count = 0 then some pos else before.ref })

/-- The zero drive setpoint frame with a sequence number (R91). -/
def zeroFrameOf (node : BitVec 4) (seq : Byte) : Queued :=
  { kind := .driveSetpoint
    frame := { ident := 0x0D0 + node.setWidth 11, data := [0, 0, 0, 0, 0, 0, 0x80, seq] } }

/-- The bite, if one was open, has ended ABORTED with its record, and a switch that was pending in CUT has taken effect
(R125, R126, R129). -/
def abortedFrom (s t : State) : Prop :=
  (s.bite.state = .idle → t.bite = s.bite) ∧
  (∀ x, s.bite.ctx = some x → s.bite.state ≠ .idle →
    t.bite = { s.bite with state := .idle, jamCause := none, ctx := none, progressTimer := none, settleTimer := none
                           log := t.bite.log } ∧
    logAppended s.bite.log t.bite.log (x.toRecord s.clock .aborted)) ∧
  switchedIf (decide (s.bite.state = .cut) && s.banks.pendingSwitch) s t

/-- The fault record of a cause reported as things stand (R158). -/
def recordOf (s : State) (c : Cause) : FaultRecord :=
  { cause := c, count := 1, seq := s.lastSeq, bite := s.bite.state, tracker := s.tracker.mode
    tip := truncDiv (s.effective 6) 10, time := s.clock % 65536, contextValid := !s.faults.tripPending }

/-! ## Management requests -/

/-- The manager holds the load reservation (check 6 of R147). -/
def holdsReservation (s : State) (m : Manager) : Prop := ∃ bank, s.reservation = some { holder := m, bank := bank }

/-- A request was turned away: the reply carries its status and no data, and nothing but the Cab Port differs. -/
def turnedAway (s t : State) (m : Manager) (code : Nat) (tag : Byte) (status : Status) : Prop :=
  repliedWith s t m code tag status [] ∧ unchangedExcept [.cab] s t

/-! ## Drive commands -/

/-- What the action hand-off of a taken command leaves: the state that the six stages read (R72, R73). -/
def State.handedOff (s : State) (data : List Byte) : State := (s.acceptCommand data).handOff (commandAction data)

/-- The request a channel is conditioned from: its hold target in HOLD, else the command's request limited to its range
(R71, R75, Table 11-1). -/
def State.requestOf (s : State) (data : List Byte) (c : Channel) : Int :=
  let limited : Int := match c with
    | .rotary => max (-600) (min 600 (dataWord data 2).toInt)
    | .crowd => max (-2000) (min 2000 (dataWord data 4).toInt)
    | .winch => max (-2000) (min 2000 (dataWord data 6).toInt)
  if s.chan.mode.get c = .hold then (s.cond.hold.get c).getD limited else limited

/-- The speed cap of the bite state: SETTLE_SPEED in SETTLE, JAM_SPEED in JAMMED (R77). -/
def State.capOf (u : State) : Option Int :=
  if u.bite.state = .settle then some (itemAt u.activeBank 41)
  else if u.bite.state = .jammed then some (itemAt u.activeBank 42)
  else none

/-- The push gate is closed (R81). -/
def State.gated (u : State) : Prop :=
  u.bite.state = .engage ∨ u.bite.state = .regrip ∨ u.bite.state = .settle ∨ u.bite.state = .jammed

/-- A channel on its way to its setpoint: the target, the ramped value, and the setpoint after the ceiling cut. -/
structure Aim where
  target : Int
  ramped : Int
  setpoint : Int
deriving DecidableEq, Repr

/-- The ceiling cut of a magnitude (R84). -/
def heldWithin (ceiling x : Int) : Int := if ceiling < |x| then x.sign * ceiling else x

/-- ROTARY from a request r, `nlim` being the envelope limit: target sign(r) × min(|r|, Nc), ramp, ceiling cut (R77, R83,
R84). -/
def State.aimRotary (u : State) (nlim r : Int) : Aim :=
  let ceiling := match u.capOf with
    | none => nlim
    | some cap => min nlim cap
  let target := r.sign * min |r| ceiling
  let ramped := ramp u.cond.prev.rotary target (itemAt u.activeBank 32) (itemAt u.activeBank 33)
  { target := target, ramped := ramped, setpoint := heldWithin ceiling ramped }

/-- CROWD from a request f, under a push ceiling: target min(f, Fc) for a push and max(f, −FPULL) otherwise, ramp, ceiling
cut (R81, R83, R84). -/
def State.aimCrowd (u : State) (ceiling f : Int) : Aim :=
  let target := if 0 < f then min f ceiling else max f (-itemAt u.activeBank 39)
  let ramped := ramp u.cond.prev.crowd target (itemAt u.activeBank 34) (itemAt u.activeBank 35)
  { target := target, ramped := ramped, setpoint := if ceiling < ramped then ceiling else ramped }

/-- A hoist is stopped: the crowd setpoint pushes and the limited winch request w hoists (R86). -/
def State.hoistStopped (u : State) (push w : Int) : Prop :=
  0 < push ∧ max (-itemAt u.activeBank 38) (min w (itemAt u.activeBank 38)) < 0

/-- WINCH from a request w, with the crowd setpoint as Stage 4 left it: target w within WLIM, 0 where a hoist is stopped,
ramp, ceiling cut (R86). -/
def State.aimWinch (u : State) (push w : Int) : Aim :=
  let limited := max (-itemAt u.activeBank 38) (min w (itemAt u.activeBank 38))
  let target := if 0 < push ∧ limited < 0 then 0 else limited
  let ramped := ramp u.cond.prev.winch target (itemAt u.activeBank 36) (itemAt u.activeBank 37)
  { target := target, ramped := ramped, setpoint := heldWithin (itemAt u.activeBank 38) ramped }

/-! ## Ports (R1, R7, R8, R11) -/

/-- The own kinds queued on a port (Table 1-3). -/
def ownKinds : PortId → List FrameKind
  | .cab => [.status, .echo, .reply0, .reply1]
  | .drive => [.driveSetpoint]

/-- The frames of a kind that a port holds. -/
def Port.countKind (p : Port) (k : FrameKind) : Nat := p.held.countP (fun q => decide (q.kind = k))

/-- A queued frame is an own frame of this port, with its identifier and 8 bytes, or a forwarded one, which carries no
own identifier (R3, R9, R169). -/
def frameFits (node : BitVec 4) (id : PortId) (q : Queued) : Prop :=
  if q.kind = .forwarded then isOwnIdent node q.frame.ident = false
  else q.kind ∈ ownKinds id ∧ kindIdent node q.kind = some q.frame.ident ∧ q.frame.data.length = 8

/-- What a port keeps: OFFLINE it is empty (R11); ONLINE it offers a frame whenever it holds one (R9); one place for each
own kind (R7); forwarded frames within their places (R8); a drop count within its bound (R1). -/
def portOk (node : BitVec 4) (id : PortId) (p : Port) : Prop :=
  (p.state = .offline → p.held = []) ∧
  (p.offer = none → p.waiting = []) ∧
  (∀ k ∈ ownKinds id, p.countKind k ≤ 1) ∧
  p.countKind .forwarded ≤ forwardedPlaces id ∧
  (∀ q ∈ p.held, frameFits node id q) ∧
  p.drops ≤ 65535

/-- Both ports keep their form. -/
def portsOk (s : State) : Prop := portOk s.node .cab s.cab ∧ portOk s.node .drive s.drive

/-! ## Routing Table (R13) -/

/-- No two entries that are not EMPTY share a port and identifier (R13). -/
def routesOk (s : State) : Prop :=
  ∀ j k : Fin 32, j ≠ k → s.routes[j].cls ≠ .empty → s.routes[k].cls ≠ .empty →
    ¬ (s.routes[j].port = s.routes[k].port ∧ s.routes[j].ident = s.routes[k].ident)

/-! ## Signal Store (R17, R19, R20, R23, R25, R27, R28) -/

/-- The configuration items lie in their ranges (R23). -/
def slotConfigOk (i : SlotId) (c : SlotConfig) : Prop :=
  10 ≤ c.lossTime ∧ c.lossTime ≤ 2000 ∧ inWrittenRange i c.rmin ∧ inWrittenRange i c.rmax ∧ c.rmin ≤ c.rmax ∧
    inWrittenRange i c.subst

/-- A slot record agrees with its judgement: LOST exactly by the detectors of lost-by (R17); ABSENCE stands exactly while
the timer is EXPIRED with the detector on, and RANGE exactly while the range condition is set with the detector on (R19,
R20, R25); the held value and the items lie in their ranges. -/
def slotOk (i : SlotId) (r : Slot) : Prop :=
  (r.state = .lost ↔ (r.lostAbsence || r.lostRange) = true) ∧
  (r.lostAbsence = true ↔ r.timer = .expired ∧ r.cfg.absEn = true) ∧
  (r.lostRange = true → r.rangeCond = true ∧ r.cfg.rngEn = true) ∧
  (r.rangeCond = true ∧ r.cfg.rngEn = true → r.lostRange = true) ∧
  plausibleLow i ≤ r.held ∧ r.held ≤ plausibleHigh i ∧
  slotConfigOk i r.cfg

/-- Every slot record is in order, and T and Fm are formed from the effective values and the map as they stand. -/
def signalOk (s : State) : Prop :=
  (∀ i : SlotId, slotOk i (s.signal.slot i)) ∧ s.signal.torque = s.torqueNow ∧ s.signal.crowd = s.crowdNow

/-! ## Kelly Map and Extension Tracker (R37, R47, R48, R49) -/

/-- The table of R48 for a junction in use. -/
def junctionOk (m : MapItems) (k : Fin 5) (j : Junction) : Prop :=
  (j.state = .nested → j.ext = 0 ∧ j.lock = none) ∧
  (j.state = .free → 0 < j.ext ∧ j.ext < junctionTravel m k ∧ j.lock = none) ∧
  (j.state = .full → j.ext = junctionTravel m k ∧ j.lock = none) ∧
  (j.state = .locked → ∃ i : Fin 4, j.lock = some i ∧ j.ext = lockPoint m k i ∧ (i.val : Int) < lockPointCount m k)

/-- The map and the tracker agree (R37); a committed map is a valid one (R41); a loss cause stands in LOST alone (R47);
the records keep R48 for the junctions in use, and their full-reset values above S; Xt is the sum of R49. -/
def trackingOk (s : State) : Prop :=
  (s.tracker.mode = .unmapped ↔ s.kelly.committed = false) ∧
  (s.kelly.committed = true → mapFault s.kelly.items = none) ∧
  (s.tracker.cause.isSome = true ↔ s.tracker.mode = .lost) ∧
  (∀ k : Fin 5,
    if s.kelly.committed && junctionInUse s.kelly.items k then junctionOk s.kelly.items k s.tracker.junctions[k]
    else s.tracker.junctions[k] = Junction.reset) ∧
  s.tracker.xt = trackedExtension s.kelly.items s.tracker.junctions

/-! ## Bite Engine and Profile Banks (R112 to R122, R134, R141, R151, R153) -/

/-- The bite context keeps R113 and R114. -/
def contextOk (b : BiteEngine) (x : BiteContext) : Prop :=
  x.number = b.counter ∧ 1 ≤ x.number ∧ x.number ≤ 65535 ∧ x.d0 ≤ x.hw ∧
    x.rb = max 0 (x.bl - (x.hw - x.d0)) ∧ 100 ≤ x.bl ∧ x.bl ≤ 3000 ∧ x.regrips ≤ 255 ∧ x.jams ≤ 255 ∧
    0 ≤ x.peakT ∧ 0 ≤ x.peakPush

/-- The bite is in ENGAGE, CUT or REGRIP. -/
def cutting (b : BiteState) : Bool := decide (b = .engage) || decide (b = .cut) || decide (b = .regrip)

/-- The parts of the engine stand in their states (R112, R120, R122), a bite in ENGAGE, CUT or REGRIP has the tracker
TRACKING (R118), CUT is crowd-ready and ENGAGE is not (R116), and the log holds at most 8 records (R130). -/
def biteOk (s : State) : Prop :=
  (s.bite.jamCause.isSome = true ↔ s.bite.state = .jammed) ∧
  (s.bite.ctx = none ↔ s.bite.state = .idle) ∧
  (s.bite.progressTimer.isSome = true ↔ s.bite.state = .cut) ∧
  (s.bite.settleTimer.isSome = true ↔ s.bite.state = .settle) ∧
  (cutting s.bite.state = true → s.tracker.mode = .tracking) ∧
  (s.bite.state = .cut → s.crowdReady = true) ∧
  (s.bite.state = .engage → s.crowdReady = false) ∧
  s.bite.log.length ≤ 8 ∧ s.bite.counter ≤ 65535

/-- A valid bank is active once active-valid is true (R134); a pending switch waits in CUT alone, its bank valid and its
reservation held (R139, R141, R153); a reservation never names the active bank (R153); a bite is open only with a valid
bank active (R134). -/
def banksOk (s : State) : Prop :=
  (s.banks.activeValid = true → bankFault s.activeBank = none) ∧
  (s.banks.pendingSwitch = true →
    s.bite.state = .cut ∧ bankFault (s.banks.bank (otherBank s.banks.active)) = none ∧ s.reservation.isSome = true) ∧
  (∀ r, s.reservation = some r → r.bank = otherBank s.banks.active) ∧
  (s.bite.state ≠ .idle → s.banks.activeValid = true)

/-- The context of an open bite keeps its form. -/
def openBiteOk (s : State) : Prop := ∀ x, s.bite.ctx = some x → contextOk s.bite x

/-! ## Conditioner and Channel Control (R70, R75, R97, R104 to R109) -/

/-- A drive-following monitor: a latch that is SET holds its count at 0, and a reference stands exactly while a run is
counted (R104, R106, R170); ROTARY has none (R105). -/
def followOk (c : Channel) (f : Follow) : Prop :=
  (f.latch = true → f.count = 0) ∧
  (if c = .rotary then f.ref = none else (f.ref.isSome = true ↔ 0 < f.count))

/-- A hold target is present exactly while its channel is in HOLD (R170); a SET latch has its count at 0. -/
def channelsOk (s : State) : Prop :=
  (∀ c : Channel, ((s.cond.hold.get c).isSome = true ↔ s.chan.mode.get c = .hold)) ∧
  (∀ c : Channel, followOk c (s.chan.follow.get c)) ∧
  (s.chan.overloadLatch = true → s.chan.overloadCount = 0) ∧
  (s.cond.stallLatch = true → s.cond.stallCount = 0) ∧
  s.chan.stopLine = s.stopInput

/-- A setpoint within the channel's range (Table 5-2). -/
def inRequestRange (c : Channel) (x : Int) : Prop :=
  match c with
  | .rotary => -600 ≤ x ∧ x ≤ 600
  | .crowd | .winch => -2000 ≤ x ∧ x ≤ 2000

/-- Previous setpoints and hold targets lie in the ranges of Table 5-2. -/
def setpointsOk (s : State) : Prop :=
  ∀ c : Channel, inRequestRange c (s.cond.prev.get c) ∧ ∀ h, s.cond.hold.get c = some h → inRequestRange c h

/-! ## Fault Monitor (R158 to R163) -/

/-- A fault record within its fields' ranges (R158). -/
def recordOk (r : FaultRecord) : Prop := 1 ≤ r.count ∧ r.count ≤ 255 ∧ r.time < 65536

/-- The queue holds at most 16 records of different causes; trip pending is set exactly while a class T record is held
(R161, R163), and the lockout flag exactly while both are (R162); an asserted STOP line and an OFFLINE Drive Port have
their record (R100, R10, R163). -/
def faultsOk (s : State) : Prop :=
  s.faults.queue.length ≤ 16 ∧
  (s.faults.queue.map FaultRecord.cause).Nodup ∧
  (∀ r ∈ s.faults.queue, recordOk r) ∧
  (s.faults.tripPending = true ↔ s.faults.holdsTrip = true) ∧
  (s.faults.lockout = true ↔ s.faults.holds .stopLine = true ∧ s.faults.holds .driveLinkDown = true) ∧
  (s.chan.stopLine = .asserted → s.faults.holds .stopLine = true) ∧
  (s.drive.state = .offline → s.faults.holds .driveLinkDown = true)

/-- A drive setpoint frame that carries no motion (R91, R94). -/
def carriesNoMotion (q : Queued) : Prop :=
  q.kind = .driveSetpoint → q.frame.data.take 6 = [0, 0, 0, 0, 0, 0]

/-- While the governor is TRIPPED or in LOCKOUT, no bite is open, the previous setpoints are 0, and every drive setpoint
frame that the Drive Port holds carries three zeros (R94, R125, R161, R162). -/
def neutralOk (s : State) : Prop :=
  s.faults.tripPending = true ∨ s.faults.lockout = true →
    s.bite.state = .idle ∧ s.cond.prev = zeroSetpoints ∧ ∀ q ∈ s.drive.held, carriesNoMotion q

end Sys2Proof.Machine
end

