-- ==== Sys2Proof/Certificates/Slice0/Obligations.lean ====
section
/-! DEFINITION. The statements for the provers. -/

section Statements

open Sys2Proof Sys2Proof.Machine

/-! ## The machine and its resets -/

/-- A step with a command waiting runs the front command on the state with the rest of the queue (the queue is the model's
own, log entry 15). -/
def Obligations.StepTakesFrontCommand : Prop :=
  ∀ (s : State) (c : Instr) (rest : List Instr), s.pending = c :: rest → step s = exec c (s.withPending rest)

/-- A step with no command waiting is one millisecond: the timebase goes up by one, every running timer counts down, and
where one timer runs out its expiry is taken. The model's own choice (log entries 3 and 4). -/
def Obligations.IdleStepIsOneMillisecond : Prop :=
  ∀ s : State, s.pending = [] →
    unchangedExcept [.clock, .commandTimer, .statusTimer, .signal, .bite] s s.countDown ∧
    s.countDown.clock = s.clock + 1 ∧
    s.countDown.commandTimer = s.commandTimer - 1 ∧
    s.countDown.statusTimer = s.statusTimer - 1 ∧
    s.countDown.signal.torque = s.signal.torque ∧ s.countDown.signal.crowd = s.signal.crowd ∧
    (∀ i : SlotId, s.countDown.signal.slot i =
      { s.signal.slot i with
        timer := match (s.signal.slot i).timer with
          | .running left => .running (left - 1)
          | .expired => .expired }) ∧
    s.countDown.bite =
      { s.bite with progressTimer := s.bite.progressTimer.map (· - 1), settleTimer := s.bite.settleTimer.map (· - 1) } ∧
    ((∀ u : TimerId, s.countDown.timerDue u = false) → step s = .next s.countDown) ∧
    ∀ u : TimerId, s.countDown.timerDue u = true → (∀ w, w ≠ u → s.countDown.timerDue w = false) →
      step s = exec (expiryRow u) s.countDown

/-- A full reset with the STOP line released leaves every block at its full-reset values. One that finds the line asserted
trips the governor with one STOP_LINE record of context-valid true and a zero frame; every other block is the same. The
command carries the straps and the level of the line (the model's form, log entry 18). -/
def Obligations.FullResetValues : Prop :=
  (∀ (s : State) (straps : BitVec 4), ∃ t, exec (.fullReset straps .released) s = .next t ∧
    t.pending = s.pending ∧ t.stopInput = .released ∧ t.node = straps ∧ t.clock = 0 ∧ t.lastSeq = 0 ∧
    t.commandTimer = 100 ∧ t.statusTimer = 100 ∧ t.link.cmdTimeout = 100 ∧ t.link.statusPeriod = 100 ∧
    t.cab = { state := .online, offer := none, waiting := [], drops := 0 } ∧
    t.drive = { state := .online, offer := none, waiting := [], drops := 0 } ∧
    (∀ k : Fin 32, t.routes[k].port = .cab ∧ t.routes[k].ident = 0 ∧ t.routes[k].cls = .empty ∧
      ∀ p : Fin 4, t.routes[k].maps[p].used = false) ∧
    (∀ i : SlotId, (t.signal.slot i).raw = 0 ∧ (t.signal.slot i).held = 0 ∧ (t.signal.slot i).state = .awaiting ∧
      (t.signal.slot i).lostAbsence = false ∧ (t.signal.slot i).lostRange = false ∧
      (t.signal.slot i).rangeCond = false ∧ (t.signal.slot i).timer = .running 100 ∧
      (t.signal.slot i).cfg.lossTime = 100 ∧
      inSlotUnit i (t.signal.slot i).cfg.rmin = plausibleLow i ∧
      inSlotUnit i (t.signal.slot i).cfg.rmax = plausibleHigh i ∧
      (t.signal.slot i).cfg.absEn = true ∧ (t.signal.slot i).cfg.rngEn = true ∧
      (t.signal.slot i).cfg.policy = .hold ∧ (t.signal.slot i).cfg.subst = 0) ∧
    t.signal.torque = 0 ∧ t.signal.crowd = 0 ∧
    (∀ j : Fin 54, t.kelly.items[j] = 0) ∧ t.kelly.committed = false ∧
    t.tracker.mode = .unmapped ∧ t.tracker.cause = none ∧ t.tracker.xt = 0 ∧ t.tracker.xm = 0 ∧
    (∀ k : Fin 5, t.tracker.junctions[k] = { ext := 0, state := .nested, lock := none }) ∧
    t.cond = { prev := ⟨0, 0, 0⟩, hold := ⟨none, none, none⟩, stallLatch := false, stallCount := 0, action := .none } ∧
    (∀ c : Channel, t.chan.mode.get c = .normal ∧ t.chan.follow.get c = { latch := false, count := 0, ref := none }) ∧
    t.chan.overloadLatch = false ∧ t.chan.overloadCount = 0 ∧ t.chan.stopLine = .released ∧
    t.chan.linkMode = .normal ∧
    t.bite.state = .idle ∧ t.bite.jamCause = none ∧ t.bite.ctx = none ∧ t.bite.progressTimer = none ∧
    t.bite.settleTimer = none ∧ t.bite.counter = 0 ∧ t.bite.log = [] ∧
    (∀ j : Fin 63, t.banks.bankA[j] = 0 ∧ t.banks.bankB[j] = 0) ∧ t.banks.active = .a ∧
    t.banks.activeValid = false ∧ t.banks.pendingSwitch = false ∧
    t.reservation = none ∧
    t.faults = { queue := [], tripPending := false, lockout := false } ∧
    t.governor = .notReady) ∧
  ∀ (s : State) (straps : BitVec 4), ∃ r t, exec (.fullReset straps .released) s = .next r ∧
    exec (.fullReset straps .asserted) s = .next t ∧
    unchangedExcept [.stopInput, .chan, .faults, .drive] r t ∧
    t.stopInput = .asserted ∧ t.chan = { r.chan with stopLine := .asserted } ∧
    t.faults =
      { queue := [{ cause := .stopLine, count := 1, seq := 0, bite := .idle, tracker := .unmapped, tip := 0, time := 0
                    contextValid := true }]
        tripPending := true, lockout := false } ∧
    t.drive =
      { state := .online, waiting := [], drops := 0
        offer := some { kind := .driveSetpoint
                        frame := { ident := 0x0D0 + straps.setWidth 11, data := [0, 0, 0, 0, 0, 0, 0x80, 0] } } } ∧
    t.governor = .tripped

/-! ## Frames that arrive -/

/-- A request frame at the Cab Port comes to the same as its row: for every request, tag, high nibble of byte 0 and
further bytes, the frame is decoded to the request it encodes, with every field at every value. That a request row is the
decoded request is the model's choice (log entry 2). -/
def Obligations.RequestFrameIsItsRow : Prop :=
  ∀ (s : State) (m : Manager) (tag : Byte) (r : Request) (high : Fin 16) (extra : List Byte),
    exec (.frameArrival .cab (requestIdent s.node m)
        ((BitVec.ofNat 8 (r.code + 16 * high.val) :: (encodeRequest tag r).tail) ++ extra)) s =
      exec (r.row m tag) s

/-- Own identifiers: the eight are distinct; a frame on the drive command identifier at the Cab Port is a drive command;
a command or request identifier at the Drive Port, and an own output identifier at either port, is dropped with the notice
ID_CONFLICT and nothing else. -/
def Obligations.OwnIdentifiersAreTakenOrDropped : Prop :=
  ∀ s : State,
    (([0x0C0, 0x0D0, 0x3C0, 0x3D0, 0x5E0, 0x5F0, 0x6E0, 0x6F0] : List Ident).map
      (fun base => base + s.node.setWidth 11)).Nodup ∧
    (∀ data, exec (.frameArrival .cab (0x0C0 + s.node.setWidth 11) data) s = exec (.driveCommand data) s) ∧
    (∀ data, ∀ base ∈ ([0x0C0, 0x5E0, 0x5F0] : List Ident),
      exec (.frameArrival .drive (base + s.node.setWidth 11) data) s = .next (s.record .idConflict)) ∧
    ∀ port data, ∀ base ∈ ([0x0D0, 0x3C0, 0x3D0, 0x6E0, 0x6F0] : List Ident),
      exec (.frameArrival port (base + s.node.setWidth 11) data) s = .next (s.record .idConflict)

/-- A request frame that is too short for its code, or whose code is none of the twelve, is answered BAD_REQUEST with the
code and tag it carries, 0 where it is too short to carry them, and changes nothing else. -/
def Obligations.MalformedRequestIsAnswered : Prop :=
  ∀ (s : State) (m : Manager) (data : List Byte),
    (∀ n, [5, 7, 3, 2, 2, 2, 3, 3, 4, 4, 3, 2][(data.headD 0).toNat % 16]? = some n → data.length < n) →
    ∃ t, exec (.frameArrival .cab (requestIdent s.node m) data) s = .next t ∧
      repliedWith s t m ((data.headD 0).toNat % 16) (data.getD 1 0) .badRequest [] ∧
      unchangedExcept [.cab] s t

/-- A foreign frame that matches no entry or a PASS entry is forwarded: queued unchanged on the other port if that port is
ONLINE with a forwarded place free, where it waits for the frame on offer or the lowest identifier goes on offer, else
discarded and counted. One that matches a BLOCK entry changes nothing. -/
def Obligations.ForeignFramesAreForwardedOrBlocked : Prop :=
  ∀ (s : State) (port : PortId) (id : Ident) (data : List Byte), routesOk s → isOwnIdent s.node id = false →
    ((∃ k : Fin 32, s.routes[k].cls = .block ∧ s.routes[k].port = port ∧ s.routes[k].ident = id) →
      exec (.frameArrival port id data) s = .next s) ∧
    (((∀ k : Fin 32, s.routes[k].cls = .empty ∨ s.routes[k].port ≠ port ∨ s.routes[k].ident ≠ id) ∨
        ∃ k : Fin 32, s.routes[k].cls = .pass ∧ s.routes[k].port = port ∧ s.routes[k].ident = id) →
      ∃ t, exec (.frameArrival port id data) s = .next t ∧
        unchangedExcept [if port = .cab then .drive else .cab] s t ∧
        forwardedTo (if port = .cab then 7 else 4) (s.port (otherPort port)) (t.port (otherPort port))
          { ident := id, data := data })

/-- A mapping reads two bytes, the less significant first, an UNSIGNED value above 32767 as 32767. One that fits hands one
sample to its slot: the raw value (cm to mm for TIPDEPTH), the range condition, the re-armed absence timer, and FRESH with
the held value or LOST by RANGE. The other slots keep their records; an entry to LOST reports the slot's cause, held where
the queue has room for all reports of the step; the frame is forwarded. The four positions of a SAMPLE entry are taken in
order, each unused, skipped with one BAD_SAMPLE past the frame's data, or handed on, and the frame is forwarded after. -/
def Obligations.SampleUpdatesItsSlot : Prop :=
  (∀ (x : Mapping) (data : List Byte), x.value data =
    match x.sign with
    | .signed => (dataWord data x.offset.val).toInt
    | .unsigned => min ((dataWord data x.offset.val).toNat : Int) 32767) ∧
  (∀ (s : State) (port : PortId) (id : Ident) (data : List Byte) (i : SlotId) (v : Int),
    carriesSample s port id data i v →
    ∃ t, exec (.frameArrival port id data) s = .next t ∧
      (∀ j, j ≠ i → t.signal.slot j = s.signal.slot j) ∧
      (let before := s.signal.slot i
       let raw := if i = 6 then 10 * v else v
       let low := if i = 6 then 10 * before.cfg.rmin else before.cfg.rmin
       let high := if i = 6 then 10 * before.cfg.rmax else before.cfg.rmax
       let outside := decide (raw < low ∨ high < raw)
       (outside = true ∧ before.cfg.rngEn = true → t.signal.slot i =
          { before with raw := raw, rangeCond := true, timer := .running before.cfg.lossTime, lostAbsence := false
                        lostRange := true, state := .lost }) ∧
       (¬ (outside = true ∧ before.cfg.rngEn = true) → t.signal.slot i =
          { before with raw := raw, rangeCond := outside, timer := .running before.cfg.lossTime, lostAbsence := false
                        lostRange := false, state := .fresh
                        held := max (plausibleLow i) (min raw (plausibleHigh i)) }) ∧
       (outside = true ∧ before.cfg.rngEn = true → before.state ≠ .lost → i = 0 ∨ s.faults.queue.length ≤ 13 →
          t.faults.holds (.slotLost i) = true) ∧
       (¬ (outside = true ∧ before.cfg.rngEn = true ∧ before.state ≠ .lost) → i = 0 → t.faults = s.faults)) ∧
      forwardedTo (if port = .cab then 7 else 4) (s.port (otherPort port)) (t.port (otherPort port))
        { ident := id, data := data } ∧
      unchangedExcept [.signal, .tracker, .faults, .bite, .banks, .reservation, .chan,
        if port = .cab then .drive else .cab] s t ∧
      (i = 0 → unchangedExcept [.signal, .faults, if port = .cab then .drive else .cab] s t)) ∧
  ∀ (s : State) (port : PortId) (id : Ident) (data : List Byte) (e : RouteEntry),
    isOwnIdent s.node id = false → s.matchRoute port id = some e → e.cls = .sample →
    ∃ after : Fin 5 → State, after 0 = s ∧
      (∀ p : Fin 4, mappingTaken data e.maps[p] (after p.castSucc) (after p.succ)) ∧
      exec (.frameArrival port id data) s = .next ((after 4).forward port { ident := id, data := data })

/-! ## Transmit queues and links -/

/-- An own frame takes its kind's one place: it replaces an unsent frame of its kind, and no other frame is touched. A frame
of another kind stays on offer. If the frame on offer is of its kind, or none is, the offer is withdrawn and the queue's
lowest identifier goes on offer. At an OFFLINE port the frame is discarded. The withdrawal is R7's; log entry 20 says why it
stands against a line of R95, and log entry 16 where a replacing frame stands in the list. -/
def Obligations.OwnFrameTakesItsKindsPlace : Prop :=
  ∀ (node : BitVec 4) (id : PortId) (p : Port) (q : Queued), portOk node id p →
    (p.state = .offline → p.queueOwn q = p) ∧
    (p.state = .online →
      (p.queueOwn q).state = .online ∧ (p.queueOwn q).drops = p.drops ∧
      (p.queueOwn q).held.Perm (p.held.filter (fun x => decide (x.kind ≠ q.kind)) ++ [q]) ∧
      let queue := p.waiting.filter (fun x => decide (x.kind ≠ q.kind)) ++ [q]
      (∀ o, p.offer = some o → o.kind ≠ q.kind → (p.queueOwn q).offer = some o ∧ (p.queueOwn q).waiting = queue) ∧
      ((∀ o, p.offer = some o → o.kind = q.kind) → lowestOffered queue (p.queueOwn q)))

/-- A transmit completion takes the frame on offer away, and the port offers the waiting frame with the lowest identifier,
the earliest queued among equals; with none waiting the offer marker is absent. With nothing on offer there is nothing to
complete (the model's choice, log entry 8). -/
def Obligations.CompletionOffersLowestIdentifier : Prop :=
  ∀ (s : State) (port : PortId), (s.port port).state = .online →
    ((s.port port).offer = none → exec (.transmitCompletion port) s = .next s) ∧
    ((s.port port).offer ≠ none →
      ∃ t, exec (.transmitCompletion port) s = .next t ∧
        unchangedExcept [if port = .cab then .cab else .drive] s t ∧
        (t.port port).state = .online ∧ (t.port port).drops = (s.port port).drops ∧
        ((s.port port).waiting = [] → (t.port port).offer = none ∧ (t.port port).waiting = []) ∧
        ((s.port port).waiting ≠ [] → lowestOffered (s.port port).waiting (t.port port)))

/-- Transmit failure and bus recovered: an ONLINE port goes OFFLINE and empty with its forwarded frames counted and its
cause reported, at the Drive Port with a trip; at an OFFLINE port a failure has no effect. An OFFLINE port recovers empty,
and a recovery at an ONLINE port has no effect. -/
def Obligations.LinkFailureAndRecovery : Prop :=
  ∀ (s : State) (port : PortId),
    let p := s.port port
    let failed : Port :=
      { state := .offline, offer := none, waiting := []
        drops := min (p.drops + (p.held.filter (fun q => decide (q.kind = .forwarded))).length) 65535 }
    (p.state = .offline → exec (.transmitFailure port) s = .next s) ∧
    (p.state = .online → port = .cab →
      exec (.transmitFailure port) s = .next ((s.withCab failed).record .cabLinkDown)) ∧
    (p.state = .online → port = .drive → ∃ t, exec (.transmitFailure port) s = .next t ∧
      t.drive = failed ∧ t.faults.holds .driveLinkDown = true ∧
      unchangedExcept [.drive, .faults, .cond, .chan, .bite, .banks, .reservation] s t ∧
      (s.faults.holds .driveLinkDown = false →
        t.bite.state = .idle ∧ t.cond = { s.cond with prev := ⟨0, 0, 0⟩ } ∧
        (s.faults.tripPending = false → t.faults.tripPending = true ∧ t.faults.lockout = s.faults.lockout) ∧
        (s.faults.tripPending = true → t.faults.tripPending = true ∧ t.faults.lockout = true))) ∧
    (p.state = .online → exec (.busRecovered port) s = .next s) ∧
    (p.state = .offline → ∃ t, exec (.busRecovered port) s = .next t ∧
      unchangedExcept [if port = .cab then .cab else .drive] s t ∧
      t.port port = { state := .online, offer := none, waiting := [], drops := p.drops })

/-! ## Drive commands -/

/-- A drive command of fewer than 8 bytes is dropped with BAD_CMD and nothing else. One of 8 is taken: its sequence number
is recorded, the command absence timer is armed with CMD_TIMEOUT, the action memory becomes the normalised code, and the
hold targets, the channel modes, the link mode and every block the command has no part in stay as they were. -/
def Obligations.DriveCommandIsTakenOrDropped : Prop :=
  ∀ (s : State) (data : List Byte),
    (data.length < 8 → exec (.driveCommand data) s = .next (s.record .badCmd)) ∧
    (8 ≤ data.length → ∃ t, exec (.driveCommand data) s = .next t ∧
      t.lastSeq = data.getD 0 0 ∧ t.commandTimer = s.link.cmdTimeout ∧
      t.cond.action = ([.none, .start, .abort, .resume] : List Action).getD (data.getD 1 0).toNat .none ∧
      t.cond.hold = s.cond.hold ∧ t.chan.mode = s.chan.mode ∧ t.chan.linkMode = s.chan.linkMode ∧
      t.chan.stopLine = s.chan.stopLine ∧ t.chan.overloadLatch = s.chan.overloadLatch ∧
      t.chan.overloadCount = s.chan.overloadCount ∧
      unchangedExcept [.lastSeq, .commandTimer, .bite, .banks, .reservation, .faults, .cond, .cab, .drive, .chan] s t)

/-- The edges of the action field: NONE and a held action hand nothing over; an unknown code is reported; a START, ABORT or
RESUME that the engine cannot take is reported. In each case no bite and no bank changes, and the stages run on. -/
def Obligations.ActionsHeldUnknownOrRefused : Prop :=
  ∀ (s : State) (data : List Byte), 8 ≤ data.length →
    let code := (data.getD 1 0).toNat
    let accepted := s.acceptCommand data
    let refused : Prop :=
      (code = 1 ∧ s.cond.action ≠ .start ∧
        ¬ (s.bite.state = .idle ∧ s.governor = .ready ∧ s.tracker.mode = .tracking)) ∨
      (code = 2 ∧ s.cond.action ≠ .abort ∧ s.bite.state = .idle) ∨
      (code = 3 ∧ s.cond.action ≠ .resume ∧ ¬ (s.bite.state = .jammed ∧ s.tracker.mode = .tracking))
    let held : Prop := code = 0 ∨ (code = 1 ∧ s.cond.action = .start) ∨ (code = 2 ∧ s.cond.action = .abort) ∨
      (code = 3 ∧ s.cond.action = .resume)
    (refused ∨ 4 ≤ code → ∃ a, exec (.driveCommand data) s =
      .next (((accepted.record .actionRefused).withAction a).conditionCommand (commandRequests data)
        (commandSeq data))) ∧
    (held → ∃ a, exec (.driveCommand data) s =
      .next ((accepted.withAction a).conditionCommand (commandRequests data) (commandSeq data))) ∧
    (refused ∨ 4 ≤ code ∨ held → ∃ t, exec (.driveCommand data) s = .next t ∧
      t.bite = s.bite ∧ t.banks = s.banks ∧ t.reservation = s.reservation)

/-- START taken: with the engine IDLE, the governor READY and the tracker TRACKING, the counter goes up (65535 to 1), the
context is formed, and the bite is in CUT with the no-progress timer armed if the kelly is crowd-ready, else in ENGAGE. -/
def Obligations.StartOpensABite : Prop :=
  ∀ (s : State) (data : List Byte), 8 ≤ data.length → (data.getD 1 0).toNat = 1 → s.cond.action ≠ .start →
    biteOk s → s.bite.state = .idle → s.governor = .ready → s.tracker.mode = .tracking →
    let number := if s.bite.counter = 65535 then 1 else s.bite.counter + 1
    ∃ t, exec (.driveCommand data) s = .next t ∧
      t.bite.counter = number ∧ t.bite.log = s.bite.log ∧ t.bite.jamCause = none ∧ t.bite.settleTimer = none ∧
      t.bite.ctx = some
        { number := number, d0 := s.effective 6, hw := s.effective 6, bl := itemAt s.activeBank 62
          rb := itemAt s.activeBank 62, regrips := 0, jams := 0, peakT := magnitude s.signal.torque
          peakPush := max 0 s.signal.crowd, startTime := s.clock } ∧
      (s.crowdReady = true → t.bite.state = .cut ∧ t.bite.refDepth = s.effective 6 ∧
        t.bite.progressTimer = some (itemAt s.activeBank 47).toNat) ∧
      (s.crowdReady = false → t.bite.state = .engage ∧ t.bite.progressTimer = none) ∧
      t.banks = s.banks ∧ t.reservation = s.reservation

/-- ABORT taken: ENGAGE, REGRIP, JAMMED, and CUT with RB above FINISH_BAND, end ABORTED with a record; SETTLE ends DONE; in
CUT with RB at or below FINISH_BAND the bite goes on. An exit from CUT lets a pending switch take effect. -/
def Obligations.AbortEndsTheBite : Prop :=
  ∀ (s : State) (data : List Byte) (x : BiteContext), 8 ≤ data.length → (data.getD 1 0).toNat = 2 →
    s.cond.action ≠ .abort → biteOk s → s.bite.ctx = some x →
    let ends : Prop := s.bite.state = .engage ∨ s.bite.state = .regrip ∨ s.bite.state = .jammed ∨
      (s.bite.state = .cut ∧ itemAt s.activeBank 48 < x.rb)
    (ends ∨ s.bite.state = .settle → ∃ t, exec (.driveCommand data) s = .next t ∧
      t.bite.state = .idle ∧ t.bite.ctx = none ∧ t.bite.jamCause = none ∧ t.bite.progressTimer = none ∧
      t.bite.settleTimer = none ∧ t.bite.counter = s.bite.counter ∧
      logAppended s.bite.log t.bite.log
        (x.toRecord s.clock (if s.bite.state = .settle then .done else .aborted)) ∧
      switchedIf (decide (s.bite.state = .cut) && s.banks.pendingSwitch) s t) ∧
    (s.bite.state = .cut → x.rb ≤ itemAt s.activeBank 48 → ∃ t, exec (.driveCommand data) s = .next t ∧
      t.bite = s.bite ∧ t.banks = s.banks ∧ t.reservation = s.reservation)

/-- RESUME taken in JAMMED with the tracker TRACKING: the jam cause is removed and the bite goes to CUT if the kelly is
crowd-ready, with the timer armed afresh from HW, else to ENGAGE; the context stands. -/
def Obligations.ResumeLeavesJammed : Prop :=
  ∀ (s : State) (data : List Byte) (x : BiteContext), 8 ≤ data.length → (data.getD 1 0).toNat = 3 →
    s.cond.action ≠ .resume → s.bite.state = .jammed → s.tracker.mode = .tracking → s.bite.ctx = some x →
    ∃ t, exec (.driveCommand data) s = .next t ∧
      t.bite.jamCause = none ∧ t.bite.ctx = some x ∧ t.bite.settleTimer = none ∧ t.bite.log = s.bite.log ∧
      t.bite.counter = s.bite.counter ∧ t.banks = s.banks ∧ t.reservation = s.reservation ∧
      (s.crowdReady = true → t.bite.state = .cut ∧ t.bite.refDepth = x.hw ∧
        t.bite.progressTimer = some (itemAt s.activeBank 47).toNat) ∧
      (s.crowdReady = false → t.bite.state = .engage ∧ t.bite.progressTimer = none)

/-- The envelope of a valid bank: 2 to 12 points, the torques ascending from 0; the last speed from the last torque on, else
the interpolation on the one segment that holds the torque, which exists; between the segment's speeds and in 0..600. Points
past the count are not used, and the conditioner reads it at |T| from the active bank. -/
def Obligations.EnvelopeLimitOfValidBank : Prop :=
  ∀ (b : Bank) (a : Int), bankFault b = none → 0 ≤ a →
    let n := (itemAt b 0).toNat
    let torque := fun i => itemAt b (1 + 2 * i)
    let speed := fun i => itemAt b (2 + 2 * i)
    (2 ≤ itemAt b 0 ∧ itemAt b 0 ≤ 12 ∧ torque 0 = 0 ∧ (∀ i, i + 1 < n → torque i < torque (i + 1)) ∧
      ∀ i, i < n → 0 ≤ speed i ∧ speed i ≤ 600) ∧
    (torque (n - 1) ≤ a → envelopeLimit b a = speed (n - 1)) ∧
    (a < torque (n - 1) → ∃ i, i + 1 < n ∧ torque i ≤ a ∧ a < torque (i + 1) ∧
      ∀ j, j + 1 < n → torque j ≤ a → a < torque (j + 1) → j = i) ∧
    (∀ i, i + 1 < n → torque i ≤ a → a < torque (i + 1) →
      envelopeLimit b a =
        speed i + Int.tdiv ((a - torque i) * (speed (i + 1) - speed i)) (torque (i + 1) - torque i) ∧
      min (speed i) (speed (i + 1)) ≤ envelopeLimit b a ∧ envelopeLimit b a ≤ max (speed i) (speed (i + 1))) ∧
    0 ≤ envelopeLimit b a ∧ envelopeLimit b a ≤ 600 ∧
    (∀ d : Bank, (∀ j : Fin 63, j.val ≤ 2 * n → d[j] = b[j]) → envelopeLimit d a = envelopeLimit b a) ∧
    ∀ (s : State) (r : PerChannel Int), (s.stageInput r).bank = s.activeBank ∧ (s.stageInput r).a = |s.signal.torque|

/-- The derate of a valid bank: Ta below Tb; D by its three cases, within Dmin..256; FE the share D of FK, within 0..FK; FK in
0..2000 while TRACKING and FSAFE, not below 0, in the other tracker states. -/
def Obligations.DerateOfValidBank : Prop :=
  ∀ (b : Bank) (a fk : Int), bankFault b = none → 0 ≤ fk →
    let ta := itemAt b 25
    let tb := itemAt b 26
    let dmin := itemAt b 27
    ta < tb ∧ 0 ≤ dmin ∧ dmin ≤ 256 ∧
    (a ≤ ta → derateFactor b a = 256) ∧
    (tb ≤ a → derateFactor b a = dmin) ∧
    (ta < a → a < tb → derateFactor b a = 256 - Int.tdiv ((a - ta) * (256 - dmin)) (tb - ta)) ∧
    dmin ≤ derateFactor b a ∧ derateFactor b a ≤ 256 ∧
    effectivePush fk (derateFactor b a) = Int.tdiv (fk * derateFactor b a) 256 ∧
    0 ≤ effectivePush fk (derateFactor b a) ∧ effectivePush fk (derateFactor b a) ≤ fk ∧
    ∀ s : State, s.activeBank = b → trackingOk s →
      (∀ r : PerChannel Int, (s.stageInput r).bank = b ∧ (s.stageInput r).fk = s.pushLimit) ∧
      (s.tracker.mode = .tracking → 0 ≤ s.pushLimit ∧ s.pushLimit ≤ 2000) ∧
      (s.tracker.mode ≠ .tracking → s.pushLimit = itemAt b 40 ∧ 0 ≤ s.pushLimit)

/-- The ramp: against the sign of the target toward 0 by the fall step, stopping at 0; growing in magnitude toward the target
by the rise step; otherwise toward it by the fall step. It never passes the target, or 0 on a reversal, moves by at most the
larger step, and with steps of 1 or more reaches the target. Stage 4 ramps each of the two channels with its own steps and
then makes the ceiling cut. -/
def Obligations.RampStepsTowardTarget : Prop :=
  (∀ p g rise fall : Int, 0 < rise → 0 < fall →
    let opposite := (0 < p ∧ g < 0) ∨ (p < 0 ∧ 0 < g)
    (opposite → |p| ≤ fall → ramp p g rise fall = 0) ∧
    (opposite → fall < |p| → ramp p g rise fall = p - p.sign * fall) ∧
    (¬ opposite → |p| < |g| → |g - p| ≤ rise → ramp p g rise fall = g) ∧
    (¬ opposite → |p| < |g| → rise < |g - p| → ramp p g rise fall = p + (g - p).sign * rise) ∧
    (¬ opposite → |g| ≤ |p| → |g - p| ≤ fall → ramp p g rise fall = g) ∧
    (¬ opposite → |g| ≤ |p| → fall < |g - p| → ramp p g rise fall = p + (g - p).sign * fall) ∧
    (opposite → 0 ≤ ramp p g rise fall * p) ∧
    min p g ≤ ramp p g rise fall ∧ ramp p g rise fall ≤ max p g ∧
    |ramp p g rise fall - p| ≤ max rise fall ∧
    (fun x => ramp x g rise fall)^[p.natAbs + g.natAbs] p = g) ∧
  ∀ (x : StageInput) (latch : Bool),
    (conditionRotary x).setpoint =
      cutMagnitude (ramp x.prev.rotary (conditionRotary x).target (itemAt x.bank 32) (itemAt x.bank 33))
        (speedCeiling (envelopeLimit x.bank x.a) (speedCap x.bank x.bite)) ∧
    (conditionCrowd x latch).setpoint =
      min (ramp x.prev.crowd (conditionCrowd x latch).target (itemAt x.bank 34) (itemAt x.bank 35))
        (pushCeiling (effectivePush x.fk (derateFactor x.bank x.a)) (gateClosed x.bite) latch)

/-- What the conditioner forms keeps the limits: with a valid bank and map, the crowd setpoint of every taken command is at
most FE, and not above 0 under a closed gate or a SET stall latch; the rotary setpoint is within the envelope and any cap;
the winch setpoint is within WLIM. The readings are those after the action hand-off. -/
def Obligations.ConditionedSetpointsWithinLimits : Prop :=
  ∀ (s : State) (data : List Byte), 8 ≤ data.length → banksOk s → trackingOk s → s.banks.activeValid = true →
    let u := s.handedOff data
    let a := magnitude u.signal.torque
    ∃ t, exec (.driveCommand data) s = .next t ∧
      t.cond.prev.crowd ≤ effectivePush u.pushLimit (derateFactor u.activeBank a) ∧
      (gateClosed u.bite.state = true ∨ t.cond.stallLatch = true → t.cond.prev.crowd ≤ 0) ∧
      magnitude t.cond.prev.rotary ≤ envelopeLimit u.activeBank a ∧
      (u.bite.state = .settle → magnitude t.cond.prev.rotary ≤ itemAt u.activeBank 41) ∧
      (u.bite.state = .jammed → magnitude t.cond.prev.rotary ≤ itemAt u.activeBank 42) ∧
      magnitude t.cond.prev.winch ≤ itemAt u.activeBank 38

/-- The stall latch: set by the command whose count reaches STALL_COUNT, released by torque alone, untouched while no valid
bank is active. -/
def Obligations.StallLatchSetsAndReleases : Prop :=
  ∀ (s : State) (data : List Byte), 8 ≤ data.length →
    let b := (s.handedOff data).activeBank
    let a := magnitude s.signal.torque
    let stalled : Prop := itemAt b 28 ≤ a ∧ magnitude (s.effective 0) ≤ itemAt b 29
    ∃ t, exec (.driveCommand data) s = .next t ∧
      ((s.handedOff data).banks.activeValid = false →
        t.cond.stallLatch = s.cond.stallLatch ∧ t.cond.stallCount = s.cond.stallCount) ∧
      ((s.handedOff data).banks.activeValid = true →
        (s.cond.stallLatch = true → a < itemAt b 28 - itemAt b 31 →
          t.cond.stallLatch = false ∧ t.cond.stallCount = 0) ∧
        (s.cond.stallLatch = true → itemAt b 28 - itemAt b 31 ≤ a →
          t.cond.stallLatch = true ∧ t.cond.stallCount = 0) ∧
        (s.cond.stallLatch = false → stalled → itemAt b 30 ≤ s.cond.stallCount + 1 →
          t.cond.stallLatch = true ∧ t.cond.stallCount = 0 ∧
          ((∀ c, followEnabled b c = false) → t.faults.holds .stall = true)) ∧
        (s.cond.stallLatch = false → stalled → s.cond.stallCount + 1 < itemAt b 30 →
          t.cond.stallLatch = false ∧ t.cond.stallCount = s.cond.stallCount + 1) ∧
        (s.cond.stallLatch = false → ¬ stalled → t.cond.stallLatch = false ∧ t.cond.stallCount = 0))

/-- What a taken command sends. With a valid bank active, a channel that is not forced is sent what Stages 1 to 5 form: from
its limited request or hold target, the target under the envelope and cap, the push ceiling and FPULL, or WLIM and the hoist
interlock, then the ramp and the ceiling cut; and each of the eight flags stands by its own test. With none active only
FORCED stands. A forced channel, and every channel while the governor is not READY, is sent 0 and keeps its hold target. In
NORMAL the frame goes to the Drive Port; in LOOPBACK it goes to the Cab Port as an echo and the Drive Port receives a zero
frame. The previous setpoints become those of the frame. -/
def Obligations.ForcingAndEmission : Prop :=
  ∀ (s : State) (data : List Byte), 8 ≤ data.length →
    let u := s.handedOff data
    let forced : Channel → Prop := fun c => u.governor ≠ .ready ∨ s.chan.mode.get c = .neutral ∨
      s.chan.stopLine = .asserted ∨ (s.chan.follow.get c).latch = true ∨
      (c = .crowd ∧ s.chan.overloadLatch = true)
    ∃ (t : State) (flags : Byte), exec (.driveCommand data) s = .next t ∧
      (∀ c, forced c → t.cond.prev.get c = 0) ∧ t.cond.hold = s.cond.hold ∧
      (flags.getLsbD 7 = true ↔ ∃ c, forced c) ∧
      (u.banks.activeValid = false → ∀ i, i < 7 → flags.getLsbD i = false) ∧
      (u.banks.activeValid = true →
        let a := |s.signal.torque|
        let nlim := envelopeLimit u.activeBank a
        let d := derateFactor u.activeBank a
        let fe := effectivePush u.pushLimit d
        let r := s.requestOf data .rotary
        let f := s.requestOf data .crowd
        let w := s.requestOf data .winch
        ∃ fc, (u.gated ∨ t.cond.stallLatch = true → fc = 0) ∧ (¬ (u.gated ∨ t.cond.stallLatch = true) → fc = fe) ∧
          let rotary := u.aimRotary nlim r
          let crowd := u.aimCrowd fc f
          let winch := u.aimWinch crowd.setpoint w
          let aim : Channel → Aim := fun c => match c with
            | .rotary => rotary
            | .crowd => crowd
            | .winch => winch
          let pushCut : Prop := (0 < f ∧ fe < f) ∨ (0 < crowd.ramped ∧ fe < crowd.ramped)
          (∀ c, ¬ forced c → t.cond.prev.get c = (aim c).setpoint) ∧
          (flags.getLsbD 0 = true ↔ nlim < |r| ∨ nlim < |rotary.ramped|) ∧
          (flags.getLsbD 1 = true ↔ ∃ cap, u.capOf = some cap ∧ (cap < |r| ∨ cap < |rotary.ramped|)) ∧
          (flags.getLsbD 2 = true ↔ t.cond.stallLatch = true ∨ (pushCut ∧ d < 256)) ∧
          (flags.getLsbD 3 = true ↔ pushCut) ∧
          (flags.getLsbD 4 = true ↔ u.gated ∧ (0 < f ∨ 0 < crowd.ramped)) ∧
          (flags.getLsbD 5 = true ↔ ∃ c, ¬ forced c ∧ (aim c).setpoint ≠ (aim c).target) ∧
          (flags.getLsbD 6 = true ↔ u.hoistStopped crowd.setpoint w)) ∧
      let frame := wordBytes (wordOf t.cond.prev.rotary) ++ wordBytes (wordOf t.cond.prev.crowd) ++
        wordBytes (wordOf t.cond.prev.winch) ++ [flags, data.getD 0 0]
      (s.chan.linkMode = .normal →
        t.drive = s.drive.queueOwn
          { kind := .driveSetpoint, frame := { ident := 0x0D0 + s.node.setWidth 11, data := frame } } ∧
        t.cab = s.cab) ∧
      (s.chan.linkMode = .loopback →
        t.cab = s.cab.queueOwn
          { kind := .echo, frame := { ident := 0x3D0 + s.node.setWidth 11, data := frame } } ∧
        t.drive = s.drive.queueOwn
          { kind := .driveSetpoint
            frame := { ident := 0x0D0 + s.node.setWidth 11, data := [0, 0, 0, 0, 0, 0, 0x80, data.getD 0 0] } })

/-- A channel in HOLD is conditioned from its hold target: the request the stages read for it is the hold target whatever
the command carries, and two commands that differ in that channel's request alone come to the same state. -/
def Obligations.HeldChannelIgnoresItsRequest : Prop :=
  ∀ (s : State) (c : Channel) (h : Int), s.chan.mode.get c = .hold → s.cond.hold.get c = some h →
    (∀ data, 8 ≤ data.length →
      ((s.handedOff data).stageInput (commandRequests data)).request.get c = h ∧
      exec (.driveCommand data) s =
        .next ((s.handedOff data).conditionCommand (commandRequests data) (data.getD 0 0))) ∧
    ∀ a b : List Byte, a.length = 8 → b.length = 8 →
      (∀ i, i ≠ 2 + 2 * channelNumber c → i ≠ 3 + 2 * channelNumber c → a.getD i 0 = b.getD i 0) →
      exec (.driveCommand a) s = exec (.driveCommand b) s

/-- No command puts a drive setpoint frame that carries motion on the Drive Port unless the governor is READY and the link
mode is NORMAL. -/
def Obligations.MotionOnlyWhenReadyAndNormal : Prop :=
  ∀ (s t : State) (q : Queued), step s = .next t → q ∈ t.drive.held → q.kind = .driveSetpoint → q ∉ s.drive.held →
    q.frame.data.take 6 = [0, 0, 0, 0, 0, 0] ∨ (t.governor = .ready ∧ t.chan.linkMode = .normal)

/-! ## Channel Control's monitors -/

/-- The drive-following monitor examines the frame of every taken command, the zero frame in LOOPBACK: a run of frames the
drive does not follow is counted from its first frame, and the frame that reaches FCOUNT sets the latch; with no other
channel's monitor enabled, the channel's cause is then held. -/
def Obligations.CommandFrameIsMonitored : Prop :=
  ∀ (s : State) (data : List Byte), 8 ≤ data.length →
    let u := s.handedOff data
    ∃ t, exec (.driveCommand data) s = .next t ∧
      ∀ c : Channel,
        let x := if s.chan.linkMode = .normal then t.cond.prev.get c else 0
        monitored u.banks.activeValid u.activeBank c x (s.effective (motionSlot c)) (s.chan.follow.get c)
          (t.chan.follow.get c) ∧
        ((s.chan.follow.get c).latch = false → (t.chan.follow.get c).latch = true →
          (∀ o, o ≠ c → itemAt u.activeBank (followItem o) ≠ 1) → t.faults.holds (.notFollowing c) = true)

/-- The kelly overload monitor on an accepted crowd pressure sample: Fm from the new pressure, the peak push of an open bite,
the count of events with Fm above FK while TRACKING, and the latch with its report at OVERLOAD_COUNT. -/
def Obligations.OverloadCountsAndLatches : Prop :=
  ∀ (s : State) (port : PortId) (id : Ident) (data : List Byte) (i : SlotId) (v : Int),
    carriesSample s port id data i v → i = 3 ∨ i = 4 → acceptsSample i v (s.signal.slot i).cfg →
    let fm := crowdWith s i v
    let exceeds : Prop := s.tracker.mode = .tracking ∧ s.pushLimit < fm
    ∃ t, exec (.frameArrival port id data) s = .next t ∧
      unchangedExcept [.signal, .bite, .chan, .faults, if port = .cab then .drive else .cab] s t ∧
      t.signal.crowd = fm ∧ t.signal.torque = s.signal.torque ∧
      t.bite = { s.bite with
        ctx := s.bite.ctx.map (fun x => { x with peakPush := min (max x.peakPush fm) 10000 }) } ∧
      (s.banks.activeValid = false ∨ s.chan.overloadLatch = true ∨ ¬ exceeds →
        t.chan = { s.chan with overloadCount := 0 } ∧ t.faults = s.faults) ∧
      (s.banks.activeValid = true → s.chan.overloadLatch = false → exceeds →
        (itemAt s.activeBank 61 ≤ s.chan.overloadCount + 1 →
          t.chan = { s.chan with overloadLatch := true, overloadCount := 0 } ∧
          t.faults.holds .kellyOverload = true) ∧
        ((s.chan.overloadCount : Int) + 1 < itemAt s.activeBank 61 →
          t.chan = { s.chan with overloadCount := s.chan.overloadCount + 1 } ∧ t.faults = s.faults))

/-! ## Extension Tracker -/

/-- The position update with both position slots FRESH: the nested window re-synchronises; outside it SEEKING and LOST wait;
in TRACKING a value below the window loses tracking, a difference within the deadband changes nothing, and a larger one is
distributed whole, Xt becoming Xm, or loses tracking. -/
def Obligations.PositionUpdate : Prop :=
  ∀ (s : State) (port : PortId) (id : Ident) (data : List Byte) (i : SlotId) (v : Int),
    carriesSample s port id data i v → i = 5 ∨ i = 6 → acceptsSample i v (s.signal.slot i).cfg →
    (∀ j : SlotId, j = 5 ∨ j = 6 → j ≠ i → (s.signal.slot j).state = .fresh) →
    trackingOk s → s.tracker.mode ≠ .unmapped →
    let m := s.kelly.items
    let xm := extensionWith s i v
    let d := xm - s.tracker.xt
    let walked := distribute m d s.tracker.junctions
    ∃ t, exec (.frameArrival port id data) s = .next t ∧
      (|xm| ≤ itemAt m 2 →
        t.tracker.mode = .tracking ∧ t.tracker.cause = none ∧ t.tracker.xt = 0 ∧ t.tracker.xm = xm ∧
        ∀ k : Fin 5, t.tracker.junctions[k] = { ext := 0, state := .nested, lock := none }) ∧
      (itemAt m 2 < |xm| → s.tracker.mode ≠ .tracking → t.tracker = { s.tracker with xm := xm }) ∧
      (s.tracker.mode = .tracking →
        (xm < -itemAt m 2 →
          t.tracker = { s.tracker with mode := .lost, cause := some .underRun, xm := xm }) ∧
        (itemAt m 2 < xm → |d| ≤ itemAt m 4 → t.tracker = { s.tracker with xm := xm }) ∧
        (itemAt m 2 < xm → itemAt m 4 < |d| → walked.1 = 0 →
          t.tracker = { s.tracker with xm := xm, xt := xm, junctions := walked.2 }) ∧
        (itemAt m 2 < xm → itemAt m 4 < |d| → walked.1 ≠ 0 →
          t.tracker =
            { s.tracker with mode := .lost, cause := some (if 0 < d then .overExtend else .underRun), xm := xm }) ∧
        (t.tracker.mode = .lost → s.banks.pendingSwitch = false → t.faults.holds .trackLost = true))

/-- A position sample that is refused, or that finds the other position slot not FRESH, takes a TRACKING tracker LOST with
cause SENSOR, its records frozen, and a bite in ENGAGE, CUT or REGRIP to JAMMED; SEEKING and LOST stay. -/
def Obligations.StalePositionLosesTracking : Prop :=
  ∀ (s : State) (port : PortId) (id : Ident) (data : List Byte) (i : SlotId) (v : Int),
    carriesSample s port id data i v → i = 5 ∨ i = 6 →
    (¬ acceptsSample i v (s.signal.slot i).cfg ∨
      ∃ j : SlotId, (j = 5 ∨ j = 6) ∧ j ≠ i ∧ (s.signal.slot j).state ≠ .fresh) →
    ∃ t, exec (.frameArrival port id data) s = .next t ∧
      t.tracker.xm = t.effective 6 - t.effective 5 - itemAt s.kelly.items 1 ∧
      (s.tracker.mode ≠ .tracking → t.tracker = { s.tracker with xm := t.tracker.xm }) ∧
      (s.tracker.mode = .tracking →
        t.tracker = { s.tracker with mode := .lost, cause := some .sensor, xm := t.tracker.xm } ∧
        (s.banks.pendingSwitch = false → t.faults.holds .trackLost = true) ∧
        (s.bite.state = .engage ∨ s.bite.state = .cut ∨ s.bite.state = .regrip →
          t.bite.state = .jammed ∧ t.bite.jamCause = some .trackLost ∧
          t.bite.ctx = s.bite.ctx.map (fun x => { x with jams := min (x.jams + 1) 255 }) ∧
          t.bite.progressTimer = none ∧ t.bite.settleTimer = none))

/-- The walk: LOCKED junctions and those above S are untouched, no extension leaves 0..L, the shares and what remains make up
the whole difference, an outer junction moves only when every free inner one is at its stop, and a moved junction's state
follows from its extension. -/
def Obligations.WalkInnermostFirst : Prop :=
  ∀ (m : MapItems) (d : Int) (js : Vector Junction 5),
    (∀ k : Fin 5, junctionInUse m k = true → 0 ≤ js[k].ext ∧ js[k].ext ≤ junctionTravel m k) →
    let rest := (distribute m d js).1
    let after := (distribute m d js).2
    let free := fun k : Fin 5 => junctionInUse m k = true ∧ js[k].state ≠ .locked
    let total := fun x : Vector Junction 5 => x[0].ext + x[1].ext + x[2].ext + x[3].ext + x[4].ext
    (∀ k : Fin 5, ¬ free k → after[k] = js[k]) ∧
    (∀ k : Fin 5, free k → 0 ≤ after[k].ext ∧ after[k].ext ≤ junctionTravel m k) ∧
    (∀ k : Fin 5, after[k].ext = js[k].ext → after[k] = js[k]) ∧
    (∀ k : Fin 5, after[k].ext ≠ js[k].ext → after[k].lock = none ∧
      after[k].state =
        if after[k].ext = 0 then .nested else if after[k].ext = junctionTravel m k then .full else .free) ∧
    0 ≤ rest ∧
    (0 < d → total after = total js + d - rest) ∧
    (d ≤ 0 → total after = total js + d + rest) ∧
    (∀ k : Fin 5, free k → (rest ≠ 0 ∨ ∃ j : Fin 5, j < k ∧ after[j].ext ≠ js[j].ext) →
      (0 < d → after[k].ext = junctionTravel m k) ∧ (d < 0 → after[k].ext = 0))

/-- Lock and unlock on an accepted rotary pressure sample in TRACKING: at T of TLOCK or more every FREE or FULL junction
within a window locks at its nearest lock point, the lower of two equally near; at T of −TLOCK or less every LOCKED one is
freed with its extension kept; between them, and in the other tracker states, nothing changes. A bite in ENGAGE or CUT then
stands in CUT exactly if the kelly is crowd-ready, and its peak |T| is raised. -/
def Obligations.LockAndUnlock : Prop :=
  ∀ (s : State) (port : PortId) (id : Ident) (data : List Byte) (i : SlotId) (v : Int),
    carriesSample s port id data i v → i = 1 ∨ i = 2 → acceptsSample i v (s.signal.slot i).cfg →
    trackingOk s → biteOk s →
    let m := s.kelly.items
    let torque := torqueWith s i v
    let near := fun (k : Fin 5) (p : Fin 4) =>
      (p.val : Int) < lockPointCount m k ∧ |s.tracker.junctions[k].ext - lockPoint m k p| ≤ itemAt m 3
    let locks := fun k : Fin 5 => junctionInUse m k = true ∧
      (s.tracker.junctions[k].state = .free ∨ s.tracker.junctions[k].state = .full) ∧ ∃ p, near k p
    ∃ t, exec (.frameArrival port id data) s = .next t ∧
      t.signal.torque = torque ∧ t.signal.crowd = s.signal.crowd ∧
      t.tracker.mode = s.tracker.mode ∧ t.tracker.cause = s.tracker.cause ∧ t.tracker.xm = s.tracker.xm ∧
      (s.tracker.mode ≠ .tracking ∨ (-itemAt m 5 < torque ∧ torque < itemAt m 5) → t.tracker = s.tracker) ∧
      (s.tracker.mode = .tracking → itemAt m 5 ≤ torque →
        t.tracker.xt = trackedExtension m t.tracker.junctions ∧
        ∀ k : Fin 5,
          (¬ locks k → t.tracker.junctions[k] = s.tracker.junctions[k]) ∧
          (locks k → ∃ p, near k p ∧
            t.tracker.junctions[k] = { ext := lockPoint m k p, state := .locked, lock := some p } ∧
            ∀ q, near k q → q ≠ p →
              |s.tracker.junctions[k].ext - lockPoint m k p| < |s.tracker.junctions[k].ext - lockPoint m k q| ∨
              (|s.tracker.junctions[k].ext - lockPoint m k p| = |s.tracker.junctions[k].ext - lockPoint m k q| ∧
                p < q))) ∧
      (s.tracker.mode = .tracking → torque ≤ -itemAt m 5 →
        t.tracker.xt = s.tracker.xt ∧
        ∀ k : Fin 5,
          (s.tracker.junctions[k].state = .locked →
            t.tracker.junctions[k] = { ext := s.tracker.junctions[k].ext, state := .free, lock := none }) ∧
          (s.tracker.junctions[k].state ≠ .locked → t.tracker.junctions[k] = s.tracker.junctions[k])) ∧
      (s.bite.state = .engage ∨ s.bite.state = .cut →
        t.bite.state = if t.crowdReady = true then .cut else .engage) ∧
      t.bite.ctx = s.bite.ctx.map (fun x => { x with peakT := min (max x.peakT |torque|) 2000 })

/-! ## The bite in CUT and REGRIP -/

/-- An accepted TIPDEPTH sample in CUT that leaves the kelly crowd-ready raises HW and forms RB anew; RB 0 ends the cut in
SETTLE with the SETTLE_TIME then in force, or at once with outcome DONE; else progress of PROG_MIN re-arms the timer. One
that opens a junction takes the bite to ENGAGE with HW as it was. -/
def Obligations.DepthCountsInCut : Prop :=
  ∀ (s : State) (port : PortId) (id : Ident) (data : List Byte) (v : Int) (x : BiteContext),
    carriesSample s port id data 6 v → acceptsSample 6 v (s.signal.slot 6).cfg → biteOk s →
    s.bite.state = .cut → s.bite.ctx = some x →
    let hw := max x.hw (sampledValue 6 v)
    let rb := max 0 (x.bl - (hw - x.d0))
    ∃ t, exec (.frameArrival port id data) s = .next t ∧
      (t.tracker.mode = .tracking → t.crowdReady = false →
        t.bite.state = .engage ∧ t.bite.ctx = some x ∧ t.bite.progressTimer = none) ∧
      (t.crowdReady = true → rb ≠ 0 →
        t.bite.state = .cut ∧ t.bite.ctx = some { x with hw := hw, rb := rb } ∧ t.banks = s.banks ∧
        (s.bite.refDepth + itemAt s.activeBank 46 ≤ hw →
          t.bite.refDepth = hw ∧ t.bite.progressTimer = some (itemAt s.activeBank 47).toNat) ∧
        (hw < s.bite.refDepth + itemAt s.activeBank 46 →
          t.bite.refDepth = s.bite.refDepth ∧ t.bite.progressTimer = s.bite.progressTimer)) ∧
      (t.crowdReady = true → rb = 0 →
        switchedIf s.banks.pendingSwitch s t ∧ t.bite.progressTimer = none ∧ t.bite.counter = s.bite.counter ∧
        (itemAt t.activeBank 43 ≠ 0 →
          t.bite.state = .settle ∧ t.bite.ctx = some { x with hw := hw, rb := 0 } ∧ t.bite.log = s.bite.log ∧
          t.bite.settleTimer = some (itemAt t.activeBank 43).toNat) ∧
        (itemAt t.activeBank 43 = 0 →
          t.bite.state = .idle ∧ t.bite.ctx = none ∧ t.bite.settleTimer = none ∧
          logAppended s.bite.log t.bite.log
            (({ x with hw := hw, rb := 0 } : BiteContext).toRecord s.clock .done)))

/-- The head tests on an accepted HEADPOS sample: in CUT, at or above HEAD_LIMIT, the bite goes to REGRIP; in REGRIP, at or
below HEAD_LIMIT − REGRIP_CLEAR, it goes on to CUT if the kelly is crowd-ready, else to ENGAGE; in the band between it
stays. -/
def Obligations.HeadTests : Prop :=
  ∀ (s : State) (port : PortId) (id : Ident) (data : List Byte) (v : Int) (x : BiteContext),
    carriesSample s port id data 5 v → acceptsSample 5 v (s.signal.slot 5).cfg → biteOk s → s.bite.ctx = some x →
    let head := sampledValue 5 v
    let b := s.activeBank
    ∃ t, exec (.frameArrival port id data) s = .next t ∧
      (s.bite.state = .cut → t.crowdReady = true → itemAt b 44 ≤ head →
        t.bite = { s.bite with state := .regrip, progressTimer := none
                               ctx := some { x with regrips := min (x.regrips + 1) 255 } } ∧
        switchedIf s.banks.pendingSwitch s t) ∧
      (s.bite.state = .cut → t.crowdReady = true → head < itemAt b 44 →
        t.bite = s.bite ∧ switchedIf false s t) ∧
      (s.bite.state = .regrip → t.tracker.mode = .tracking → itemAt b 44 - itemAt b 45 < head → t.bite = s.bite) ∧
      (s.bite.state = .regrip → t.tracker.mode = .tracking → head ≤ itemAt b 44 - itemAt b 45 →
        (t.crowdReady = false → t.bite = { s.bite with state := .engage }) ∧
        (t.crowdReady = true →
          t.bite = { s.bite with state := .cut, refDepth := x.hw
                                 progressTimer := some (itemAt b 47).toNat })) ∧
      (s.bite.state = .settle ∨ s.bite.state = .jammed → t.bite = s.bite)

/-! ## Expiries -/

/-- The command absence timer expires: it is re-armed, a zero frame is queued and monitored, the previous setpoints are
zeroed, CMD_ABSENT is reported (and held, unless a switch that was pending follows), and an open bite ends ABORTED. That the
monitor reads the bank before the abort is the model's inference (log entry 12), and the report's place before the abort is
its choice (log entry 21). -/
def Obligations.CommandAbsenceExpires : Prop :=
  ∀ s : State, ∃ t, exec .commandAbsenceExpiry s = .next t ∧
    unchangedExcept [.commandTimer, .drive, .cond, .chan, .faults, .bite, .banks, .reservation] s t ∧
    t.commandTimer = s.link.cmdTimeout ∧
    t.drive = s.drive.queueOwn (zeroFrameOf s.node s.lastSeq) ∧
    t.cond = { s.cond with prev := ⟨0, 0, 0⟩ } ∧
    t.chan = { s.chan with follow := t.chan.follow } ∧
    (∀ c : Channel, monitored s.banks.activeValid s.activeBank c 0 (s.effective (motionSlot c)) (s.chan.follow.get c)
      (t.chan.follow.get c)) ∧
    (¬ (s.bite.state = .cut ∧ s.banks.pendingSwitch = true) → t.faults.holds .cmdAbsent = true) ∧
    abortedFrom s t

/-- An absence timer expires: with ABS_EN off only the timer stands EXPIRED; with ABS_EN on the slot is LOST by ABSENCE. One
that was not LOST before has T or Fm formed anew from it, takes a TRACKING tracker LOST if it is a position slot, and, where
no reader of it reports after or the queue has room for all reports of the step, its SLOT_LOST record is held. -/
def Obligations.AbsenceTimerExpires : Prop :=
  ∀ (s : State) (i : SlotId),
    let before := s.signal.slot i
    ∃ t, exec (.absenceTimerExpiry i) s = .next t ∧
      unchangedExcept [.signal, .tracker, .faults, .bite, .banks, .reservation, .chan] s t ∧
      (∀ j, j ≠ i → t.signal.slot j = s.signal.slot j) ∧
      (before.cfg.absEn = false →
        t.signal.slot i = { before with timer := .expired } ∧ unchangedExcept [.signal] s t) ∧
      (before.cfg.absEn = true →
        t.signal.slot i = { before with timer := .expired, lostAbsence := true, state := .lost }) ∧
      (before.state = .lost → unchangedExcept [.signal] s t) ∧
      (before.cfg.absEn = true → before.state ≠ .lost →
        (i = 1 ∨ i = 2 → t.signal.torque = t.torqueNow) ∧
        (i = 3 ∨ i = 4 → t.signal.crowd = t.crowdNow) ∧
        (i = 5 ∨ i = 6 → s.tracker.mode = .tracking →
          t.tracker.mode = .lost ∧ t.tracker.cause = some .sensor ∧
          t.tracker.junctions = s.tracker.junctions ∧ t.tracker.xt = s.tracker.xt) ∧
        (i = 0 ∨ (s.tracker.mode ≠ .tracking ∧ s.bite.state = .idle) ∨ s.faults.queue.length ≤ 13 →
          t.faults.holds (.slotLost i) = true))

/-- The record of a bite at its return to IDLE: depths in cm, peak push limited to 0..32767, the duration in whole seconds,
at most 65535, and the rest as the context has it. The no-progress timer ends a cut in JAMMED with cause BITE_JAM, reported;
the settle timer ends a settle in IDLE with a record of outcome DONE. Taken in another state, an expiry does nothing (the
model's choice, log entry 5). That BITE_JAM is held also where a switch was pending rests on its report coming after the
switch (the model's choice, log entry 23). -/
def Obligations.BiteTimersExpire : Prop :=
  (∀ (x : BiteContext) (now : Nat) (outcome : BiteOutcome), x.toRecord now outcome =
    { number := x.number, d0 := Int.tdiv x.d0 10, hw := Int.tdiv x.hw 10, bl := x.bl, regrips := x.regrips, jams := x.jams
      peakT := x.peakT, peakPush := max 0 (min x.peakPush 32767), duration := min ((now - x.startTime) / 1000) 65535
      outcome := outcome }) ∧
  ∀ s : State,
    (s.bite.state ≠ .cut → exec .noProgressExpiry s = .next s) ∧
    (s.bite.state = .cut → ∃ t, exec .noProgressExpiry s = .next t ∧
      unchangedExcept [.bite, .faults, .banks, .reservation] s t ∧
      t.bite = { s.bite with
        state := .jammed, jamCause := some .biteJam, progressTimer := none, settleTimer := none
        ctx := s.bite.ctx.map (fun x => { x with jams := min (x.jams + 1) 255 }) } ∧
      switchedIf s.banks.pendingSwitch s t ∧ t.faults.holds .biteJam = true) ∧
    (s.bite.state ≠ .settle → exec .settleTimerExpiry s = .next s) ∧
    (∀ x, s.bite.state = .settle → s.bite.ctx = some x → ∃ t, exec .settleTimerExpiry s = .next t ∧
      unchangedExcept [.bite] s t ∧
      t.bite = { s.bite with
        state := .idle, jamCause := none, ctx := none, progressTimer := none, settleTimer := none
        log := t.bite.log } ∧
      logAppended s.bite.log t.bite.log (x.toRecord s.clock .done))

/-- The status timer expires: it is re-armed and one status frame is queued, whose bytes carry every field of Table 11-2 as
it stands. -/
def Obligations.StatusFrameCarriesItsFields : Prop :=
  ∀ s : State, s.faults.queue.length ≤ 16 → ∃ (t : State) (b0 b1 b2 b3 : Byte), exec .statusTimerExpiry s = .next t ∧
    unchangedExcept [.statusTimer, .cab] s t ∧ t.statusTimer = s.link.statusPeriod ∧
    t.cab = s.cab.queueOwn
      { kind := .status
        frame := { ident := 0x3C0 + s.node.setWidth 11
                   data := [b0, b1, b2, b3] ++ wordBytes (wordOf ((s.bite.ctx.map BiteContext.rb).getD 0)) ++
                     wordBytes (wordOf (truncDiv (s.effective 6) 10)) } } ∧
    b0.toNat % 4 = governorCode s.governor ∧ (b0.getLsbD 2 = true ↔ s.chan.linkMode = .loopback) ∧
    (b0.getLsbD 3 = true ↔ s.banks.active = .b) ∧ b0.getLsbD 4 = s.banks.pendingSwitch ∧
    (b0.toNat / 32 = 0 ↔ s.reservation = none) ∧
    (b0.toNat / 32 = 1 ↔ holdsReservation s .m0) ∧ (b0.toNat / 32 = 2 ↔ holdsReservation s .m1) ∧
    b1.toNat % 8 = biteStateCode s.bite.state ∧ b1.toNat / 8 % 4 = trackerModeCode s.tracker.mode ∧
    (b1.toNat / 32 = 0 ↔ s.faults.queue = []) ∧
    (∀ r ∈ s.faults.queue, faultClassCode r.cls ≤ b1.toNat / 32) ∧
    (s.faults.queue ≠ [] → ∃ r ∈ s.faults.queue, faultClassCode r.cls = b1.toNat / 32) ∧
    b2.toNat = s.faults.queue.length ∧
    (∀ i : SlotId, b3.getLsbD i.val = true ↔ (s.signal.slot i).state = .lost) ∧ b3.getLsbD 7 = false

/-! ## STOP line, trip and lockout -/

/-- STOP_ASSERTED reports STOP_LINE: a held record only has its count raised; a new one carries the context as it stood,
trips the governor or locks it out, sends a zero frame and ends an open bite. STOP_RELEASED changes the line alone. A change
to the level the line already has is taken all the same (the model's choice, log entry 7). -/
def Obligations.StopLineTripsTheGovernor : Prop :=
  ∀ s : State,
    (∃ t, exec .stopReleased s = .next t ∧ unchangedExcept [.stopInput, .chan] s t ∧ t.stopInput = .released ∧
      t.chan = { s.chan with stopLine := .released }) ∧
    ∃ t, exec .stopAsserted s = .next t ∧ t.stopInput = .asserted ∧
      t.chan = { s.chan with stopLine := .asserted, follow := t.chan.follow } ∧
      (s.faults.holds .stopLine = true → unchangedExcept [.stopInput, .chan, .faults] s t ∧
        t.chan.follow = s.chan.follow ∧
        t.faults = { s.faults with
          queue := s.faults.queue.map
            (fun r => if r.cause = .stopLine then { r with count := min (r.count + 1) 255 } else r) }) ∧
      (s.faults.holds .stopLine = false →
        unchangedExcept [.stopInput, .chan, .faults, .drive, .cond, .bite, .banks, .reservation] s t ∧
        recordOf s .stopLine ∈ t.faults.queue ∧ t.faults.tripPending = true ∧
        t.faults.lockout = (s.faults.lockout || s.faults.tripPending) ∧
        t.drive = s.drive.queueOwn (zeroFrameOf s.node s.lastSeq) ∧
        t.cond = { s.cond with prev := ⟨0, 0, 0⟩ } ∧
        (∀ c : Channel, monitored s.banks.activeValid s.activeBank c 0 (s.effective (motionSlot c))
          (s.chan.follow.get c) (t.chan.follow.get c)) ∧
        abortedFrom s t)

/-- A step keeps the fault queue and the trip state in order, and nothing but a full reset leaves LOCKOUT. -/
def Obligations.FaultsKeptAndLockoutStays : Prop :=
  ∀ s t : State, step s = .next t →
    (faultsOk s → faultsOk t) ∧
    (s.faults.lockout = true → (∀ straps stop rest, s.pending ≠ .fullReset straps stop :: rest) →
      t.faults.lockout = true)

/-- A report: a held cause has its count raised, saturating, and nothing else differs; a new record carries the context as
it stands and is appended at the newest end; a full queue first loses its oldest record of class N, else of D, else of P,
never one of T. -/
def Obligations.ReportRaisesOrAppends : Prop :=
  ∀ (s : State) (c : Cause), faultsOk s →
    let q := s.faults.queue
    let after := (s.record c).faults.queue
    let evicts := fun (cls : FaultClass) =>
      ∃ pre x post, q = pre ++ x :: post ∧ after = pre ++ post ++ [recordOf s c] ∧ x.cls = cls ∧
        ∀ y ∈ pre, y.cls ≠ cls
    unchangedExcept [.faults] s (s.record c) ∧
    (s.record c).faults.tripPending = s.faults.tripPending ∧ (s.record c).faults.lockout = s.faults.lockout ∧
    (s.faults.holds c = true →
      after = q.map (fun r => if r.cause = c then { r with count := min (r.count + 1) 255 } else r)) ∧
    (s.faults.holds c = false → q.length < 16 → after = q ++ [recordOf s c]) ∧
    (s.faults.holds c = false → q.length = 16 →
      ((∃ y ∈ q, y.cls = .n) → evicts .n) ∧
      ((∀ y ∈ q, y.cls ≠ .n) → (∃ y ∈ q, y.cls = .d) → evicts .d) ∧
      ((∀ y ∈ q, y.cls ≠ .n ∧ y.cls ≠ .d) → evicts .p))

/-- The governor state from its four sources. -/
def Obligations.GovernorStateTable : Prop :=
  ∀ s : State,
    let running : Prop := s.banks.activeValid = true ∧ s.tracker.mode ≠ .unmapped
    (s.faults.lockout = true → s.governor = .lockout) ∧
    (s.faults.lockout = false → s.faults.tripPending = true → s.governor = .tripped) ∧
    (s.faults.lockout = false → s.faults.tripPending = false → running → s.governor = .ready) ∧
    (s.faults.lockout = false → s.faults.tripPending = false → ¬ running → s.governor = .notReady)

/-! ## Management requests -/

/-- In LOCKOUT every request but READ, FAULT_READ and BITE_READ is answered LOCKED_OUT and changes nothing. -/
def Obligations.LockedOutRequests : Prop :=
  ∀ (s : State) (m : Manager) (tag : Byte) (r : Request), s.faults.lockout = true →
    (∀ space item, r ≠ .read space item) → (∀ part, r ≠ .faultRead part) → (∀ index part, r ≠ .biteRead index part) →
    ∃ t, exec (r.row m tag) s = .next t ∧ turnedAway s t m r.code tag .lockedOut

/-- READ, in every governor state: BAD_REQUEST for a code that is no space, BAD_ITEM past the space's end, else the item as
stored or, for each STATE item of Table 11-9, the value as it stands; it changes nothing. -/
def Obligations.ReadReturnsTheItem : Prop :=
  ∀ (s : State) (m : Manager) (tag space : Byte) (item : Word), ∃ t, exec (.read m tag space item) s = .next t ∧
    unchangedExcept [.cab] s t ∧
    (7 ≤ space.toNat → repliedWith s t m 0 tag .badRequest []) ∧
    (∀ n, ([63, 63, 54, 49, 192, 2, 88] : List Nat)[space.toNat]? = some n →
      (n ≤ item.toNat → repliedWith s t m 0 tag .badItem []) ∧
      (item.toNat < n → ∃ value : Word, repliedWith s t m 0 tag .ok (wordBytes value) ∧
        (∀ j : Fin 63, space = 0 → item.toNat = j.val → value = s.banks.bankA[j]) ∧
        (∀ j : Fin 63, space = 1 → item.toNat = j.val → value = s.banks.bankB[j]) ∧
        (∀ j : Fin 54, space = 2 → item.toNat = j.val → value = s.kelly.items[j]) ∧
        (∀ (i : SlotId) (j : Fin 7), space = 3 → item.toNat = 7 * i.val + j.val →
          value = (s.signal.slot i).cfg.item j.val) ∧
        (∀ (k : Fin 32) (j : Fin 6), space = 4 → item.toNat = 6 * k.val + j.val → value = s.routes[k].item j.val) ∧
        (space = 5 → item = 0 → value = wordOfNat s.link.cmdTimeout) ∧
        (space = 5 → item = 1 → value = wordOfNat s.link.statusPeriod) ∧
        (space = 6 →
          let shown := fun (j : Nat) (x : Word) => item.toNat = j → value = x
          let bite := fun (j : Nat) (part : BiteContext → Word) =>
            shown j (match s.bite.ctx with | some x => part x | none => 0)
          (shown 0 (wordOfNat (governorCode s.governor)) ∧ shown 1 (wordOfNat (trackerModeCode s.tracker.mode)) ∧
            shown 2 (wordOfNat (lossCauseCode s.tracker.cause)) ∧ shown 3 (wordOf (Int.tdiv s.tracker.xm 10)) ∧
            shown 4 (wordOf (Int.tdiv s.tracker.xt 10)) ∧ shown 5 (if s.crowdReady = true then 1 else 0) ∧
            shown 6 (wordOf s.pushLimit)) ∧
          (∀ k : Fin 5, shown (7 + 3 * k.val) (wordOf s.tracker.junctions[k].ext) ∧
            shown (8 + 3 * k.val) (wordOfNat (junctionStateCode s.tracker.junctions[k].state)) ∧
            shown (9 + 3 * k.val) (match s.tracker.junctions[k].lock with | none => 0 | some p => wordOfNat (p.val + 1))) ∧
          (∀ i : SlotId, shown (22 + 3 * i.val) (wordOfNat (slotStateCode (s.signal.slot i).state)) ∧
            shown (23 + 3 * i.val) (wordOfNat ((if (s.signal.slot i).lostAbsence = true then 1 else 0) +
              if (s.signal.slot i).lostRange = true then 2 else 0)) ∧
            shown (24 + 3 * i.val) (wordOf (if i = 6 then Int.tdiv (s.effective 6) 10 else s.effective i))) ∧
          (shown 43 (wordOf s.signal.torque) ∧ shown 44 (wordOf (max (-32768) (min s.signal.crowd 32767)))) ∧
          (∀ c : Channel, shown (45 + channelNumber c) (wordOf (s.cond.prev.get c)) ∧
            shown (50 + channelNumber c) (match s.cond.hold.get c with | none => 0 | some h => wordOf h) ∧
            shown (53 + channelNumber c) (wordOfNat (channelModeCode (s.chan.mode.get c))) ∧
            shown (56 + channelNumber c) (if (s.chan.follow.get c).latch = true then 1 else 0) ∧
            shown (59 + channelNumber c) (wordOfNat (s.chan.follow.get c).count)) ∧
          (shown 48 (if s.cond.stallLatch = true then 1 else 0) ∧ shown 49 (wordOfNat s.cond.stallCount) ∧
            shown 62 (match s.chan.follow.crowd.ref with | none => 0 | some x => wordOf x) ∧
            shown 63 (match s.chan.follow.winch.ref with | none => 0 | some x => wordOf (Int.tdiv x 10)) ∧
            shown 64 (if s.chan.overloadLatch = true then 1 else 0) ∧ shown 65 (wordOfNat s.chan.overloadCount) ∧
            shown 66 (wordOfNat (stopLevelCode s.chan.stopLine)) ∧ shown 67 (wordOfNat (linkModeCode s.chan.linkMode))) ∧
          (shown 68 (wordOfNat (biteStateCode s.bite.state)) ∧ shown 69 (wordOfNat (jamCauseCode s.bite.jamCause)) ∧
            shown 70 (wordOfNat s.bite.counter) ∧ bite 71 (fun x => wordOf (Int.tdiv x.d0 10)) ∧
            bite 72 (fun x => wordOf (Int.tdiv x.hw 10)) ∧ bite 73 (fun x => wordOf x.bl) ∧
            bite 74 (fun x => wordOf x.rb) ∧ bite 75 (fun x => wordOfNat x.regrips) ∧
            bite 76 (fun x => wordOfNat x.jams) ∧ bite 77 (fun x => wordOf x.peakT) ∧
            bite 78 (fun x => wordOf (max 0 (min x.peakPush 32767)))) ∧
          (shown 79 (wordOfNat (bankCode s.banks.active)) ∧ shown 80 (if s.banks.activeValid = true then 1 else 0) ∧
            shown 81 (if s.banks.pendingSwitch = true then 1 else 0) ∧ shown 82 (wordOfNat (portStateCode s.cab.state)) ∧
            shown 83 (wordOfNat s.cab.drops) ∧ shown 84 (wordOfNat (portStateCode s.drive.state)) ∧
            shown 85 (wordOfNat s.drive.drops) ∧
            shown 86 (match s.reservation with | none => 0 | some r => if r.holder = .m0 then 1 else 2) ∧
            shown 87 (match s.reservation with | none => 0 | some r => wordOfNat (bankCode r.bank))))))

/-- WRITE_LINK: a value in range is stored, and the running timers go on; one outside is refused with BAD_VALUE. WRITE to
the LINK space comes to the same (log entry 13). WRITE to a space with no row of its own: BAD_ITEM for STATE, BAD_REQUEST for
a code that is no space; nothing changes. -/
def Obligations.WriteLinkAndWriteElsewhere : Prop :=
  (∀ (s : State) (m : Manager) (tag : Byte) (item value : Word), notLockedOut s →
    let v := value.toInt
    let stored : Prop := (item = 0 ∧ 20 ≤ v ∧ v ≤ 1000) ∨ (item = 1 ∧ 20 ≤ v ∧ v ≤ 5000)
    ∀ c : Instr, c = .writeLink m tag item value ∨ c = .write m tag 5 item value → ∃ t, exec c s = .next t ∧
      (2 ≤ item.toNat → turnedAway s t m 1 tag .badItem) ∧
      (item.toNat < 2 → ¬ stored → turnedAway s t m 1 tag .badValue) ∧
      (stored → repliedWith s t m 1 tag .ok [] ∧ unchangedExcept [.cab, .link] s t ∧
        t.link.cmdTimeout = (if item = 0 then v.toNat else s.link.cmdTimeout) ∧
        t.link.statusPeriod = (if item = 1 then v.toNat else s.link.statusPeriod))) ∧
  ∀ (s : State) (m : Manager) (tag space : Byte) (item value : Word), notLockedOut s → 6 ≤ space.toNat →
    ∃ t, exec (.write m tag space item value) s = .next t ∧
      turnedAway s t m 1 tag (if space = 6 then .badItem else .badRequest)

/-- WRITE_BANK: discarded for the active bank and while a switch is pending; else stored as written, unchecked, and a stored
write by another than the holder to the reserved bank removes the reservation. -/
def Obligations.WriteBankStoresInactive : Prop :=
  ∀ (s : State) (m : Manager) (tag : Byte) (bank : BankId) (item value : Word), notLockedOut s →
    ∃ t, exec (.writeBank m tag bank item value) s = .next t ∧
      (63 ≤ item.toNat → turnedAway s t m 1 tag .badItem) ∧
      (item.toNat < 63 → bank = s.banks.active → turnedAway s t m 1 tag .activeBank) ∧
      (item.toNat < 63 → bank ≠ s.banks.active → s.banks.pendingSwitch = true →
        turnedAway s t m 1 tag .switchPending) ∧
      (item.toNat < 63 → bank ≠ s.banks.active → s.banks.pendingSwitch = false →
        repliedWith s t m 1 tag .ok [] ∧ unchangedExcept [.cab, .banks, .reservation] s t ∧
        (∀ j : Fin 63, (t.banks.bank bank)[j] = if item.toNat = j.val then value else (s.banks.bank bank)[j]) ∧
        t.activeBank = s.activeBank ∧ t.banks.active = s.banks.active ∧
        t.banks.activeValid = s.banks.activeValid ∧ t.banks.pendingSwitch = false ∧
        (∀ r, s.reservation = some r → r.bank = bank → r.holder ≠ m → t.reservation = none) ∧
        ((∀ r, s.reservation = some r → r.bank ≠ bank ∨ r.holder = m) → t.reservation = s.reservation))

/-- WRITE_MAP: refused in TRACKING; else stored as written, the map UNCOMMITTED, the tracker UNMAPPED with its records
reset, T or Fm formed anew from KT, AP or AR, and the bite as it stood. -/
def Obligations.WriteMapUnmaps : Prop :=
  ∀ (s : State) (m : Manager) (tag : Byte) (item value : Word), notLockedOut s → biteOk s →
    ∃ t, exec (.writeMap m tag item value) s = .next t ∧
      (54 ≤ item.toNat → turnedAway s t m 1 tag .badItem) ∧
      (item.toNat < 54 → s.tracker.mode = .tracking → turnedAway s t m 1 tag .mapInUse) ∧
      (item.toNat < 54 → s.tracker.mode ≠ .tracking →
        repliedWith s t m 1 tag .ok [] ∧ unchangedExcept [.cab, .kelly, .tracker, .signal] s t ∧
        t.kelly.committed = false ∧
        (∀ j : Fin 54, t.kelly.items[j] = if item.toNat = j.val then value else s.kelly.items[j]) ∧
        t.tracker.mode = .unmapped ∧ t.tracker.cause = none ∧ t.tracker.xt = 0 ∧ t.tracker.xm = s.tracker.xm ∧
        (∀ k : Fin 5, t.tracker.junctions[k] = { ext := 0, state := .nested, lock := none }) ∧
        t.signal.slots = s.signal.slots ∧
        t.signal.torque = (if item = 6 then t.torqueNow else s.signal.torque) ∧
        t.signal.crowd = if item = 7 ∨ item = 8 then t.crowdNow else s.signal.crowd)

/-- WRITE_SIGNAL: an item past the space is refused with BAD_ITEM; a value outside its item's range is refused; else the item
is stored and reads back as written, no other item of any slot differs, and the slot's loss is judged anew for the enable
that was written. -/
def Obligations.WriteSignalStoresAndJudges : Prop :=
  (∀ (s : State) (m : Manager) (tag : Byte) (item value : Word), notLockedOut s → 49 ≤ item.toNat →
    ∃ t, exec (.writeSignal m tag item value) s = .next t ∧ turnedAway s t m 1 tag .badItem) ∧
  ∀ (s : State) (m : Manager) (tag : Byte) (i : SlotId) (j : Fin 7) (item value : Word), notLockedOut s → signalOk s →
    item.toNat = 7 * i.val + j.val →
    let v := value.toInt
    let before := s.signal.slot i
    let low : Int := if i = 6 then -200 else plausibleLow i
    let high : Int := if i = 6 then 15000 else plausibleHigh i
    let inRange : Prop :=
      (j = 0 ∧ 10 ≤ v ∧ v ≤ 2000) ∨ (j = 1 ∧ low ≤ v ∧ v ≤ before.cfg.rmax) ∨ (j = 2 ∧ before.cfg.rmin ≤ v ∧ v ≤ high) ∨
      ((j = 3 ∨ j = 4 ∨ j = 5) ∧ (v = 0 ∨ v = 1)) ∨ (j = 6 ∧ low ≤ v ∧ v ≤ high)
    ∃ t, exec (.writeSignal m tag item value) s = .next t ∧
      (¬ inRange → turnedAway s t m 1 tag .badValue) ∧
      (inRange → repliedWith s t m 1 tag .ok [] ∧
        unchangedExcept [.cab, .signal, .tracker, .faults, .bite, .banks, .reservation, .chan] s t ∧
        let after := t.signal.slot i
        (∀ k, k ≠ i → t.signal.slot k = s.signal.slot k) ∧
        (∀ l : Fin 7, after.cfg.item l.val = if l = j then value else before.cfg.item l.val) ∧
        after.raw = before.raw ∧ after.held = before.held ∧ after.rangeCond = before.rangeCond ∧
        after.timer = before.timer ∧
        after.lostAbsence = (if j = 3 then decide (v = 1 ∧ before.timer = .expired) else before.lostAbsence) ∧
        after.lostRange = (if j = 4 then decide (v = 1) && before.rangeCond else before.lostRange) ∧
        after.state = (if after.lostAbsence || after.lostRange then .lost
          else if before.state = .lost then .awaiting else before.state) ∧
        t.signal.torque = t.torqueNow ∧ t.signal.crowd = t.crowdNow)

/-- WRITE_ROUTE: refused with BAD_ITEM for an item past the space; refused while a bite is open; refused for a value out of
its field ranges, and for an entry that would share a port and identifier with another that is not EMPTY; else stored, and it
reads back as written. -/
def Obligations.WriteRouteStoresUnlessTaken : Prop :=
  (∀ (s : State) (m : Manager) (tag : Byte) (item value : Word), notLockedOut s → 192 ≤ item.toNat →
    ∃ t, exec (.writeRoute m tag item value) s = .next t ∧ turnedAway s t m 1 tag .badItem) ∧
  ∀ (s : State) (m : Manager) (tag : Byte) (k : Fin 32) (j : Fin 6) (item value : Word), notLockedOut s →
    item.toNat = 6 * k.val + j.val →
    let v := value.toNat
    let inRange : Prop := (j = 0 ∧ v / 256 < 2 ∧ v % 256 < 4) ∨ (j = 1 ∧ v < 2048) ∨
      (2 ≤ j.val ∧ v % 8 < 7 ∧ v / 16 % 8 < 7 ∧ value &&& 0xEE88 = 0)
    ∃ t, exec (.writeRoute m tag item value) s = .next t ∧
      (s.bite.state ≠ .idle → turnedAway s t m 1 tag .engineBusy) ∧
      (s.bite.state = .idle → ¬ inRange → turnedAway s t m 1 tag .badValue) ∧
      (s.bite.state = .idle → inRange → ∃ e : RouteEntry,
        (∀ l : Fin 6, e.item l.val = if l = j then value else s.routes[k].item l.val) ∧
        let taken : Prop := e.cls ≠ .empty ∧ ∃ l : Fin 32, l ≠ k ∧ s.routes[l].cls ≠ .empty ∧
          s.routes[l].port = e.port ∧ s.routes[l].ident = e.ident
        (taken → turnedAway s t m 1 tag .badValue) ∧
        (¬ taken → repliedWith s t m 1 tag .ok [] ∧ unchangedExcept [.cab, .routes] s t ∧
          ∀ l : Fin 32, t.routes[l] = if l = k then e else s.routes[l]))

/-- OPEN places the reservation on the inactive bank, whoever held it; CANCEL removes the holder's pending switch and keeps
the reservation. Each refusal changes nothing. -/
def Obligations.OpenReservesAndCancelRemoves : Prop :=
  ∀ (s : State) (m : Manager) (tag : Byte), notLockedOut s →
    (∀ bank : Byte, ∃ t, exec (.openBank m tag bank) s = .next t ∧
      (2 ≤ bank.toNat → turnedAway s t m 2 tag .badValue) ∧
      (∀ named : BankId, bank.toNat = bankCode named →
        (s.banks.pendingSwitch = true → turnedAway s t m 2 tag .switchPending) ∧
        (s.banks.pendingSwitch = false → named = s.banks.active → turnedAway s t m 2 tag .activeBank) ∧
        (s.banks.pendingSwitch = false → named ≠ s.banks.active →
          repliedWith s t m 2 tag .ok [] ∧ unchangedExcept [.cab, .reservation] s t ∧
          t.reservation = some { holder := m, bank := named }))) ∧
    ∃ t, exec (.cancel m tag) s = .next t ∧
      (¬ holdsReservation s m → turnedAway s t m 4 tag .notHolder) ∧
      (holdsReservation s m → s.banks.pendingSwitch = false → turnedAway s t m 4 tag .notFound) ∧
      (holdsReservation s m → s.banks.pendingSwitch = true →
        repliedWith s t m 4 tag .ok [] ∧ unchangedExcept [.cab, .banks] s t ∧
        t.banks = { s.banks with pendingSwitch := false })

/-- SWITCH: only the holder's is acted on; a pending one is confirmed; an invalid bank is answered with its lowest failing
item; a valid one waits in CUT and takes effect at once in every other state, removing the reservation. -/
def Obligations.SwitchValidatesThenWaitsOrActs : Prop :=
  ∀ (s : State) (m : Manager) (tag : Byte), notLockedOut s →
    let b := s.banks.bank (otherBank s.banks.active)
    ∃ t, exec (.switch m tag) s = .next t ∧
      (¬ holdsReservation s m → turnedAway s t m 3 tag .notHolder) ∧
      (holdsReservation s m → s.banks.pendingSwitch = true → turnedAway s t m 3 tag .deferred) ∧
      (holdsReservation s m → s.banks.pendingSwitch = false →
        (∀ i : Fin 63, checkBankItem b i.val = false → (∀ j : Fin 63, j < i → checkBankItem b j.val = true) →
          repliedWith s t m 3 tag .bankInvalid [BitVec.ofNat 8 i.val, 0] ∧ unchangedExcept [.cab] s t) ∧
        ((∀ i : Fin 63, checkBankItem b i.val = true) →
          (s.bite.state = .cut → repliedWith s t m 3 tag .deferred [] ∧ unchangedExcept [.cab, .banks] s t ∧
            t.banks = { s.banks with pendingSwitch := true }) ∧
          (s.bite.state ≠ .cut → repliedWith s t m 3 tag .ok [] ∧
            unchangedExcept [.cab, .banks, .reservation, .faults] s t ∧ switchedIf true s t ∧
            t.faults.holds .bankSwitched = true)))

/-- COMMIT_MAP: refused in TRACKING; a map that fails is reported with the first failing check's reason and item; one that
passes is COMMITTED with the tracker SEEKING, its records kept and the bite as it stood, and it is usable. -/
def Obligations.CommitMapValidates : Prop :=
  ∀ (s : State) (m : Manager) (tag : Byte), notLockedOut s → biteOk s →
    let items := s.kelly.items
    ∃ t, exec (.commitMap m tag) s = .next t ∧
      (s.tracker.mode = .tracking → turnedAway s t m 5 tag .mapInUse) ∧
      (s.tracker.mode ≠ .tracking →
        (∀ pre c post, mapChecks items = pre ++ c :: post → (∀ x ∈ pre, x.passes = true) → c.passes = false →
          repliedWith s t m 5 tag .mapInvalid (byteOf (mapReasonCode c.reason) :: wordBytes (wordOfNat c.item)) ∧
          unchangedExcept [.cab] s t) ∧
        ((∀ x ∈ mapChecks items, x.passes = true) →
          repliedWith s t m 5 tag .ok [] ∧ unchangedExcept [.cab, .kelly, .tracker] s t ∧
          t.kelly = { s.kelly with committed := true } ∧
          t.tracker = { s.tracker with mode := .seeking, cause := none } ∧
          2 ≤ mapSections items ∧ mapSections items ≤ 6 ∧
          0 ≤ nestWindow items ∧ 5 ≤ lockWindow items ∧ 0 ≤ deadband items ∧ 1 ≤ lockTorque items ∧
          ∀ k : Fin 5, junctionInUse items k = true →
            1000 ≤ junctionTravel items k ∧ junctionTravel items k ≤ 20000 ∧
            0 ≤ ratingNested items k ∧ 0 ≤ ratingLocked items k ∧ 0 ≤ ratingFree items k ∧
            0 ≤ lockPointCount items k ∧ lockPointCount items k ≤ 4 ∧
            ∀ p : Nat, (p : Int) < lockPointCount items k →
              nestWindow items + lockWindow items < lockPoint items k p ∧
              lockPoint items k p < junctionTravel items k - lockWindow items ∧
              (0 < p → lockPoint items k (p - 1) < lockPoint items k p)))

/-- ACK: an unknown cause, a cause without a record and a trip cause still active are refused; else the record leaves, its
latch is cleared, and trip pending is cleared with the last class T record. -/
def Obligations.AckRemovesAndReleases : Prop :=
  ∀ (s : State) (m : Manager) (tag : Byte), notLockedOut s →
    (∀ code : Byte, 23 ≤ code.toNat →
      ∃ t, exec (.ack m tag code) s = .next t ∧ turnedAway s t m 6 tag .badValue) ∧
    ∀ c : Cause, ∃ t, exec (.ack m tag (BitVec.ofNat 8 (causeCode c))) s = .next t ∧
      let active : Prop := (c = .stopLine ∧ s.chan.stopLine = .asserted) ∨
        (c = .driveLinkDown ∧ s.drive.state = .offline)
      (s.faults.holds c = false → turnedAway s t m 6 tag .notFound) ∧
      (s.faults.holds c = true → active → turnedAway s t m 6 tag .stillActive) ∧
      (s.faults.holds c = true → ¬ active →
        repliedWith s t m 6 tag .ok [] ∧ unchangedExcept [.cab, .faults, .chan] s t ∧
        t.faults.queue = s.faults.queue.filter (fun r => decide (r.cause ≠ c)) ∧
        t.faults.lockout = false ∧
        (c = .stopLine ∨ c = .driveLinkDown → (∀ r ∈ t.faults.queue, r.cls ≠ .t) → t.faults.tripPending = false) ∧
        ((c ≠ .stopLine ∧ c ≠ .driveLinkDown) ∨ (∃ r ∈ t.faults.queue, r.cls = .t) →
          t.faults.tripPending = s.faults.tripPending) ∧
        (∀ ch, c = .notFollowing ch →
          t.chan = { s.chan with follow := s.chan.follow.set ch { latch := false, count := 0, ref := none } }) ∧
        (c = .kellyOverload → t.chan = { s.chan with overloadLatch := false, overloadCount := 0 }) ∧
        ((∀ ch, c ≠ .notFollowing ch) → c ≠ .kellyOverload → t.chan = s.chan))

/-- FAULT_READ returns a part of the oldest fault record, in every governor state. BITE_READ makes its range checks first; an
index at or past the number of records is NOT_FOUND; else the record's part is carried with each value limited to its width.
Neither changes or removes anything. -/
def Obligations.RecordsAreReadInParts : Prop :=
  (∀ (s : State) (m : Manager) (tag part : Byte), ∃ t, exec (.faultRead m tag part) s = .next t ∧
    unchangedExcept [.cab] s t ∧
    (2 ≤ part.toNat → repliedWith s t m 7 tag .badValue []) ∧
    (part.toNat < 2 → s.faults.queue = [] → repliedWith s t m 7 tag .notFound []) ∧
    (∀ r rest, s.faults.queue = r :: rest →
      (part = 0 → repliedWith s t m 7 tag .ok
        ([byteOf (causeCode r.cause), byteOf (faultClassCode r.cls), if r.contextValid then 1 else 0, byteOf r.count] ++
          wordBytes (wordOfNat r.time))) ∧
      (part = 1 → repliedWith s t m 7 tag .ok
        ([byteOf (causeCode r.cause), r.seq, byteOf (biteStateCode r.bite), byteOf (trackerModeCode r.tracker)] ++
          wordBytes (wordOf r.tip))))) ∧
  ∀ (s : State) (m : Manager) (tag index part : Byte), ∃ t, exec (.biteRead m tag index part) s = .next t ∧
    unchangedExcept [.cab] s t ∧
    (8 ≤ index.toNat ∨ 2 ≤ part.toNat → repliedWith s t m 8 tag .badValue []) ∧
    (index.toNat < 8 → part.toNat < 2 →
      (s.bite.log.length ≤ index.toNat → repliedWith s t m 8 tag .notFound []) ∧
      (∀ r, s.bite.log[index.toNat]? = some r → 0 ≤ r.bl → r.bl ≤ 3000 → 0 ≤ r.peakT → 0 ≤ r.peakPush →
        (part = 0 → ∃ w : Word, repliedWith s t m 8 tag .ok
          (wordBytes (wordOf r.d0) ++ wordBytes (wordOf r.hw) ++ wordBytes w) ∧
          ((w.toNat % 4096 : Nat) : Int) = r.bl ∧ w.toNat / 4096 = r.number % 16) ∧
        (part = 1 → ∃ w x y : Word, repliedWith s t m 8 tag .ok (wordBytes w ++ wordBytes x ++ wordBytes y) ∧
          ((w.toNat % 4096 : Nat) : Int) = min r.peakPush 4095 ∧ w.toNat / 4096 = r.number % 16 ∧
          ((x.toNat % 2048 : Nat) : Int) = min r.peakT 2047 ∧ x.toNat / 2048 % 16 = min r.regrips 15 ∧
          (x.getLsbD 15 = true ↔ r.outcome = .aborted) ∧
          y.toNat % 8192 = min r.duration 8191 ∧ y.toNat / 8192 = min r.jams 7)))

/-- CHANNEL_MODE sets one channel's mode and latches, keeps or discards its hold target; LINK_MODE changes the link mode with
the engine IDLE and then zeroes the previous setpoints. A code outside its table is refused. -/
def Obligations.ModesChange : Prop :=
  ∀ (s : State) (m : Manager) (tag : Byte), notLockedOut s →
    (∀ channel mode : Byte, 3 ≤ channel.toNat ∨ 3 ≤ mode.toNat →
      ∃ t, exec (.channelMode m tag channel mode) s = .next t ∧ turnedAway s t m 9 tag .badValue) ∧
    (∀ (c : Channel) (x : ChannelMode),
      let channel : Byte := match c with | .rotary => 0 | .crowd => 1 | .winch => 2
      let mode : Byte := match x with | .normal => 0 | .hold => 1 | .neutral => 2
      ∃ t, exec (.channelMode m tag channel mode) s = .next t ∧
        repliedWith s t m 9 tag .ok [] ∧ unchangedExcept [.cab, .cond, .chan] s t ∧
        t.chan = { s.chan with mode := s.chan.mode.set c x } ∧
        let target : Option Int := if x ≠ .hold then none
          else if s.chan.mode.get c = .hold then s.cond.hold.get c else some (s.cond.prev.get c)
        t.cond = { s.cond with hold := s.cond.hold.set c target }) ∧
    (∀ mode : Byte, 2 ≤ mode.toNat →
      ∃ t, exec (.linkMode m tag mode) s = .next t ∧ turnedAway s t m 10 tag .badValue) ∧
    ∀ x : LinkMode, ∃ t, exec (.linkMode m tag (match x with | .normal => 0 | .loopback => 1)) s = .next t ∧
      (x = s.chan.linkMode → turnedAway s t m 10 tag .ok) ∧
      (x ≠ s.chan.linkMode → s.bite.state ≠ .idle → turnedAway s t m 10 tag .engineBusy) ∧
      (x ≠ s.chan.linkMode → s.bite.state = .idle →
        repliedWith s t m 10 tag .ok [] ∧ unchangedExcept [.cab, .cond, .chan] s t ∧
        t.chan = { s.chan with linkMode := x } ∧ t.cond = { s.cond with prev := ⟨0, 0, 0⟩ })

/-- RESTART: the bite ends ABORTED with no switch taking effect; slots await, the tracker seeks or is unmapped with its
records kept, histories, latches and counts are cleared, modes, map, banks, configuration and links kept; the fault queue is
emptied, and the STOP line and the drive link trip the governor afresh if they are not in order. The order of the parts is
the model's inference where the rules leave it open (log entry 10). -/
def Obligations.RestartKeepsAndClears : Prop :=
  ∀ (s : State) (m : Manager) (tag : Byte), notLockedOut s → biteOk s → ∃ t, exec (.restart m tag) s = .next t ∧
    repliedWith s t m 11 tag .ok [] ∧
    unchangedExcept [.cab, .drive, .signal, .tracker, .cond, .chan, .bite, .banks, .reservation, .commandTimer, .faults]
      s t ∧
    t.commandTimer = s.link.cmdTimeout ∧ t.banks = { s.banks with pendingSwitch := false } ∧ t.reservation = none ∧
    t.bite.state = .idle ∧ t.bite.ctx = none ∧ t.bite.jamCause = none ∧ t.bite.progressTimer = none ∧
    t.bite.settleTimer = none ∧ t.bite.counter = s.bite.counter ∧
    (s.bite.state = .idle → t.bite.log = s.bite.log) ∧
    (∀ x, s.bite.ctx = some x → logAppended s.bite.log t.bite.log (x.toRecord s.clock .aborted)) ∧
    (∀ i : SlotId, t.signal.slot i =
      { s.signal.slot i with
        state := .awaiting, lostAbsence := false, lostRange := false, rangeCond := false
        timer := .running (s.signal.slot i).cfg.lossTime }) ∧
    t.signal.torque = t.torqueNow ∧ t.signal.crowd = t.crowdNow ∧
    t.tracker = { s.tracker with
      mode := if s.kelly.committed then .seeking else .unmapped, cause := none, xm := t.extensionNow } ∧
    t.cond = { s.cond with prev := ⟨0, 0, 0⟩, stallLatch := false, stallCount := 0, action := .none } ∧
    t.chan = { s.chan with
      follow := t.chan.follow, overloadLatch := false, overloadCount := 0, stopLine := s.stopInput } ∧
    (s.stopInput = .released → s.drive.state = .online →
      t.faults = { queue := [], tripPending := false, lockout := false } ∧ t.drive = s.drive ∧
      ∀ c : Channel, t.chan.follow.get c = { latch := false, count := 0, ref := none }) ∧
    (s.stopInput = .asserted → t.faults.holds .stopLine = true ∧ t.faults.tripPending = true) ∧
    (s.drive.state = .offline → t.faults.holds .driveLinkDown = true ∧ t.faults.tripPending = true ∧
      t.drive = s.drive) ∧
    (s.stopInput = .asserted → s.drive.state = .online →
      t.faults.lockout = false ∧ t.drive = s.drive.queueOwn (zeroFrameOf s.node s.lastSeq)) ∧
    (s.stopInput = .released → s.drive.state = .offline → t.faults.lockout = false)

/-! ## Rules of the whole machine -/

/-- But for a full reset, the items of the active bank never change while it is active, and a step in which the banks change
places leaves every item as it stood, active-valid true, no switch pending and the reservation absent. -/
def Obligations.ActiveBankIsNeverWritten : Prop :=
  ∀ s t : State, step s = .next t → (∀ straps stop rest, s.pending ≠ .fullReset straps stop :: rest) →
    (t.banks.bank s.banks.active = s.banks.bank s.banks.active) ∧
    (t.banks.active ≠ s.banks.active →
      t.banks.bank t.banks.active = s.banks.bank t.banks.active ∧ t.banks.activeValid = true ∧
      t.banks.pendingSwitch = false ∧ t.reservation = none)

/-- Every step keeps both ports in their form, and keeps the part neutral while it is TRIPPED or in LOCKOUT: no bite open,
previous setpoints 0, and no drive setpoint frame with motion held for the drive link, one on offer at the trip withdrawn
(log entry 20). -/
def Obligations.PortsAndNeutralKept : Prop :=
  ∀ s t : State, step s = .next t → portsOk s → portsOk t ∧ (neutralOk s → neutralOk t)

/-- Every step keeps the Routing Table free of clashes; the slots judged as the rules judge them, with T and Fm formed from
what stands; and the map and the tracker in agreement, the junction records true to the map. -/
def Obligations.RoutesSignalAndTrackingKept : Prop :=
  ∀ s t : State, step s = .next t →
    (routesOk s → routesOk t) ∧ (signalOk s → signalOk t) ∧ (trackingOk s → trackingOk t)

/-- Every step keeps the bite, its context, the banks, the pending switch and the reservation in order. -/
def Obligations.BiteAndBanksKept : Prop :=
  ∀ s t : State, step s = .next t → biteOk s → banksOk s → openBiteOk s → biteOk t ∧ banksOk t ∧ openBiteOk t

/-- Every step keeps hold targets with their modes and latches with their counts, and, with the banks and the map in order,
the previous setpoints and hold targets within the ranges of their channels. -/
def Obligations.ConditionerKept : Prop :=
  ∀ s t : State, step s = .next t →
    (channelsOk s → channelsOk t) ∧ (banksOk s → trackingOk s → setpointsOk s → setpointsOk t)

/-- The reset state, with the straps and the STOP level of log entry 1, meets every invariant. -/
def Obligations.ResetMeetsInvariants : Prop :=
  portsOk State.reset ∧ neutralOk State.reset ∧ routesOk State.reset ∧ signalOk State.reset ∧
    trackingOk State.reset ∧ biteOk State.reset ∧ banksOk State.reset ∧ openBiteOk State.reset ∧
    channelsOk State.reset ∧ setpointsOk State.reset ∧ faultsOk State.reset

end Statements
end

