-- ==== Sys2Proof/Laws/State.lean ====
section
/-! SUPPORT. What each named update of `State` leaves of each field: one lemma per field per update. -/

namespace Sys2Proof.Machine

variable (s : State)

/-! ### `withPending` -/

@[simp] theorem State.withPending_pending (x : List Instr) : (s.withPending x).pending = x := rfl
@[simp] theorem State.withPending_stopInput (x : List Instr) : (s.withPending x).stopInput = s.stopInput := rfl
@[simp] theorem State.withPending_node (x : List Instr) : (s.withPending x).node = s.node := rfl
@[simp] theorem State.withPending_clock (x : List Instr) : (s.withPending x).clock = s.clock := rfl
@[simp] theorem State.withPending_lastSeq (x : List Instr) : (s.withPending x).lastSeq = s.lastSeq := rfl
@[simp] theorem State.withPending_commandTimer (x : List Instr) : (s.withPending x).commandTimer = s.commandTimer := rfl
@[simp] theorem State.withPending_statusTimer (x : List Instr) : (s.withPending x).statusTimer = s.statusTimer := rfl
@[simp] theorem State.withPending_link (x : List Instr) : (s.withPending x).link = s.link := rfl
@[simp] theorem State.withPending_cab (x : List Instr) : (s.withPending x).cab = s.cab := rfl
@[simp] theorem State.withPending_drive (x : List Instr) : (s.withPending x).drive = s.drive := rfl
@[simp] theorem State.withPending_routes (x : List Instr) : (s.withPending x).routes = s.routes := rfl
@[simp] theorem State.withPending_signal (x : List Instr) : (s.withPending x).signal = s.signal := rfl
@[simp] theorem State.withPending_kelly (x : List Instr) : (s.withPending x).kelly = s.kelly := rfl
@[simp] theorem State.withPending_tracker (x : List Instr) : (s.withPending x).tracker = s.tracker := rfl
@[simp] theorem State.withPending_cond (x : List Instr) : (s.withPending x).cond = s.cond := rfl
@[simp] theorem State.withPending_chan (x : List Instr) : (s.withPending x).chan = s.chan := rfl
@[simp] theorem State.withPending_bite (x : List Instr) : (s.withPending x).bite = s.bite := rfl
@[simp] theorem State.withPending_banks (x : List Instr) : (s.withPending x).banks = s.banks := rfl
@[simp] theorem State.withPending_reservation (x : List Instr) : (s.withPending x).reservation = s.reservation := rfl
@[simp] theorem State.withPending_faults (x : List Instr) : (s.withPending x).faults = s.faults := rfl

/-! ### `withStopInput` -/

@[simp] theorem State.withStopInput_pending (x : StopLevel) : (s.withStopInput x).pending = s.pending := rfl
@[simp] theorem State.withStopInput_stopInput (x : StopLevel) : (s.withStopInput x).stopInput = x := rfl
@[simp] theorem State.withStopInput_node (x : StopLevel) : (s.withStopInput x).node = s.node := rfl
@[simp] theorem State.withStopInput_clock (x : StopLevel) : (s.withStopInput x).clock = s.clock := rfl
@[simp] theorem State.withStopInput_lastSeq (x : StopLevel) : (s.withStopInput x).lastSeq = s.lastSeq := rfl
@[simp] theorem State.withStopInput_commandTimer (x : StopLevel) : (s.withStopInput x).commandTimer = s.commandTimer := rfl
@[simp] theorem State.withStopInput_statusTimer (x : StopLevel) : (s.withStopInput x).statusTimer = s.statusTimer := rfl
@[simp] theorem State.withStopInput_link (x : StopLevel) : (s.withStopInput x).link = s.link := rfl
@[simp] theorem State.withStopInput_cab (x : StopLevel) : (s.withStopInput x).cab = s.cab := rfl
@[simp] theorem State.withStopInput_drive (x : StopLevel) : (s.withStopInput x).drive = s.drive := rfl
@[simp] theorem State.withStopInput_routes (x : StopLevel) : (s.withStopInput x).routes = s.routes := rfl
@[simp] theorem State.withStopInput_signal (x : StopLevel) : (s.withStopInput x).signal = s.signal := rfl
@[simp] theorem State.withStopInput_kelly (x : StopLevel) : (s.withStopInput x).kelly = s.kelly := rfl
@[simp] theorem State.withStopInput_tracker (x : StopLevel) : (s.withStopInput x).tracker = s.tracker := rfl
@[simp] theorem State.withStopInput_cond (x : StopLevel) : (s.withStopInput x).cond = s.cond := rfl
@[simp] theorem State.withStopInput_chan (x : StopLevel) : (s.withStopInput x).chan = s.chan := rfl
@[simp] theorem State.withStopInput_bite (x : StopLevel) : (s.withStopInput x).bite = s.bite := rfl
@[simp] theorem State.withStopInput_banks (x : StopLevel) : (s.withStopInput x).banks = s.banks := rfl
@[simp] theorem State.withStopInput_reservation (x : StopLevel) : (s.withStopInput x).reservation = s.reservation := rfl
@[simp] theorem State.withStopInput_faults (x : StopLevel) : (s.withStopInput x).faults = s.faults := rfl

/-! ### `withClock` -/

@[simp] theorem State.withClock_pending (x : Nat) : (s.withClock x).pending = s.pending := rfl
@[simp] theorem State.withClock_stopInput (x : Nat) : (s.withClock x).stopInput = s.stopInput := rfl
@[simp] theorem State.withClock_node (x : Nat) : (s.withClock x).node = s.node := rfl
@[simp] theorem State.withClock_clock (x : Nat) : (s.withClock x).clock = x := rfl
@[simp] theorem State.withClock_lastSeq (x : Nat) : (s.withClock x).lastSeq = s.lastSeq := rfl
@[simp] theorem State.withClock_commandTimer (x : Nat) : (s.withClock x).commandTimer = s.commandTimer := rfl
@[simp] theorem State.withClock_statusTimer (x : Nat) : (s.withClock x).statusTimer = s.statusTimer := rfl
@[simp] theorem State.withClock_link (x : Nat) : (s.withClock x).link = s.link := rfl
@[simp] theorem State.withClock_cab (x : Nat) : (s.withClock x).cab = s.cab := rfl
@[simp] theorem State.withClock_drive (x : Nat) : (s.withClock x).drive = s.drive := rfl
@[simp] theorem State.withClock_routes (x : Nat) : (s.withClock x).routes = s.routes := rfl
@[simp] theorem State.withClock_signal (x : Nat) : (s.withClock x).signal = s.signal := rfl
@[simp] theorem State.withClock_kelly (x : Nat) : (s.withClock x).kelly = s.kelly := rfl
@[simp] theorem State.withClock_tracker (x : Nat) : (s.withClock x).tracker = s.tracker := rfl
@[simp] theorem State.withClock_cond (x : Nat) : (s.withClock x).cond = s.cond := rfl
@[simp] theorem State.withClock_chan (x : Nat) : (s.withClock x).chan = s.chan := rfl
@[simp] theorem State.withClock_bite (x : Nat) : (s.withClock x).bite = s.bite := rfl
@[simp] theorem State.withClock_banks (x : Nat) : (s.withClock x).banks = s.banks := rfl
@[simp] theorem State.withClock_reservation (x : Nat) : (s.withClock x).reservation = s.reservation := rfl
@[simp] theorem State.withClock_faults (x : Nat) : (s.withClock x).faults = s.faults := rfl

/-! ### `withLastSeq` -/

@[simp] theorem State.withLastSeq_pending (x : Byte) : (s.withLastSeq x).pending = s.pending := rfl
@[simp] theorem State.withLastSeq_stopInput (x : Byte) : (s.withLastSeq x).stopInput = s.stopInput := rfl
@[simp] theorem State.withLastSeq_node (x : Byte) : (s.withLastSeq x).node = s.node := rfl
@[simp] theorem State.withLastSeq_clock (x : Byte) : (s.withLastSeq x).clock = s.clock := rfl
@[simp] theorem State.withLastSeq_lastSeq (x : Byte) : (s.withLastSeq x).lastSeq = x := rfl
@[simp] theorem State.withLastSeq_commandTimer (x : Byte) : (s.withLastSeq x).commandTimer = s.commandTimer := rfl
@[simp] theorem State.withLastSeq_statusTimer (x : Byte) : (s.withLastSeq x).statusTimer = s.statusTimer := rfl
@[simp] theorem State.withLastSeq_link (x : Byte) : (s.withLastSeq x).link = s.link := rfl
@[simp] theorem State.withLastSeq_cab (x : Byte) : (s.withLastSeq x).cab = s.cab := rfl
@[simp] theorem State.withLastSeq_drive (x : Byte) : (s.withLastSeq x).drive = s.drive := rfl
@[simp] theorem State.withLastSeq_routes (x : Byte) : (s.withLastSeq x).routes = s.routes := rfl
@[simp] theorem State.withLastSeq_signal (x : Byte) : (s.withLastSeq x).signal = s.signal := rfl
@[simp] theorem State.withLastSeq_kelly (x : Byte) : (s.withLastSeq x).kelly = s.kelly := rfl
@[simp] theorem State.withLastSeq_tracker (x : Byte) : (s.withLastSeq x).tracker = s.tracker := rfl
@[simp] theorem State.withLastSeq_cond (x : Byte) : (s.withLastSeq x).cond = s.cond := rfl
@[simp] theorem State.withLastSeq_chan (x : Byte) : (s.withLastSeq x).chan = s.chan := rfl
@[simp] theorem State.withLastSeq_bite (x : Byte) : (s.withLastSeq x).bite = s.bite := rfl
@[simp] theorem State.withLastSeq_banks (x : Byte) : (s.withLastSeq x).banks = s.banks := rfl
@[simp] theorem State.withLastSeq_reservation (x : Byte) : (s.withLastSeq x).reservation = s.reservation := rfl
@[simp] theorem State.withLastSeq_faults (x : Byte) : (s.withLastSeq x).faults = s.faults := rfl

/-! ### `withCommandTimer` -/

@[simp] theorem State.withCommandTimer_pending (x : Nat) : (s.withCommandTimer x).pending = s.pending := rfl
@[simp] theorem State.withCommandTimer_stopInput (x : Nat) : (s.withCommandTimer x).stopInput = s.stopInput := rfl
@[simp] theorem State.withCommandTimer_node (x : Nat) : (s.withCommandTimer x).node = s.node := rfl
@[simp] theorem State.withCommandTimer_clock (x : Nat) : (s.withCommandTimer x).clock = s.clock := rfl
@[simp] theorem State.withCommandTimer_lastSeq (x : Nat) : (s.withCommandTimer x).lastSeq = s.lastSeq := rfl
@[simp] theorem State.withCommandTimer_commandTimer (x : Nat) : (s.withCommandTimer x).commandTimer = x := rfl
@[simp] theorem State.withCommandTimer_statusTimer (x : Nat) : (s.withCommandTimer x).statusTimer = s.statusTimer := rfl
@[simp] theorem State.withCommandTimer_link (x : Nat) : (s.withCommandTimer x).link = s.link := rfl
@[simp] theorem State.withCommandTimer_cab (x : Nat) : (s.withCommandTimer x).cab = s.cab := rfl
@[simp] theorem State.withCommandTimer_drive (x : Nat) : (s.withCommandTimer x).drive = s.drive := rfl
@[simp] theorem State.withCommandTimer_routes (x : Nat) : (s.withCommandTimer x).routes = s.routes := rfl
@[simp] theorem State.withCommandTimer_signal (x : Nat) : (s.withCommandTimer x).signal = s.signal := rfl
@[simp] theorem State.withCommandTimer_kelly (x : Nat) : (s.withCommandTimer x).kelly = s.kelly := rfl
@[simp] theorem State.withCommandTimer_tracker (x : Nat) : (s.withCommandTimer x).tracker = s.tracker := rfl
@[simp] theorem State.withCommandTimer_cond (x : Nat) : (s.withCommandTimer x).cond = s.cond := rfl
@[simp] theorem State.withCommandTimer_chan (x : Nat) : (s.withCommandTimer x).chan = s.chan := rfl
@[simp] theorem State.withCommandTimer_bite (x : Nat) : (s.withCommandTimer x).bite = s.bite := rfl
@[simp] theorem State.withCommandTimer_banks (x : Nat) : (s.withCommandTimer x).banks = s.banks := rfl
@[simp] theorem State.withCommandTimer_reservation (x : Nat) : (s.withCommandTimer x).reservation = s.reservation := rfl
@[simp] theorem State.withCommandTimer_faults (x : Nat) : (s.withCommandTimer x).faults = s.faults := rfl

/-! ### `withStatusTimer` -/

@[simp] theorem State.withStatusTimer_pending (x : Nat) : (s.withStatusTimer x).pending = s.pending := rfl
@[simp] theorem State.withStatusTimer_stopInput (x : Nat) : (s.withStatusTimer x).stopInput = s.stopInput := rfl
@[simp] theorem State.withStatusTimer_node (x : Nat) : (s.withStatusTimer x).node = s.node := rfl
@[simp] theorem State.withStatusTimer_clock (x : Nat) : (s.withStatusTimer x).clock = s.clock := rfl
@[simp] theorem State.withStatusTimer_lastSeq (x : Nat) : (s.withStatusTimer x).lastSeq = s.lastSeq := rfl
@[simp] theorem State.withStatusTimer_commandTimer (x : Nat) : (s.withStatusTimer x).commandTimer = s.commandTimer := rfl
@[simp] theorem State.withStatusTimer_statusTimer (x : Nat) : (s.withStatusTimer x).statusTimer = x := rfl
@[simp] theorem State.withStatusTimer_link (x : Nat) : (s.withStatusTimer x).link = s.link := rfl
@[simp] theorem State.withStatusTimer_cab (x : Nat) : (s.withStatusTimer x).cab = s.cab := rfl
@[simp] theorem State.withStatusTimer_drive (x : Nat) : (s.withStatusTimer x).drive = s.drive := rfl
@[simp] theorem State.withStatusTimer_routes (x : Nat) : (s.withStatusTimer x).routes = s.routes := rfl
@[simp] theorem State.withStatusTimer_signal (x : Nat) : (s.withStatusTimer x).signal = s.signal := rfl
@[simp] theorem State.withStatusTimer_kelly (x : Nat) : (s.withStatusTimer x).kelly = s.kelly := rfl
@[simp] theorem State.withStatusTimer_tracker (x : Nat) : (s.withStatusTimer x).tracker = s.tracker := rfl
@[simp] theorem State.withStatusTimer_cond (x : Nat) : (s.withStatusTimer x).cond = s.cond := rfl
@[simp] theorem State.withStatusTimer_chan (x : Nat) : (s.withStatusTimer x).chan = s.chan := rfl
@[simp] theorem State.withStatusTimer_bite (x : Nat) : (s.withStatusTimer x).bite = s.bite := rfl
@[simp] theorem State.withStatusTimer_banks (x : Nat) : (s.withStatusTimer x).banks = s.banks := rfl
@[simp] theorem State.withStatusTimer_reservation (x : Nat) : (s.withStatusTimer x).reservation = s.reservation := rfl
@[simp] theorem State.withStatusTimer_faults (x : Nat) : (s.withStatusTimer x).faults = s.faults := rfl

/-! ### `withLink` -/

@[simp] theorem State.withLink_pending (x : LinkItems) : (s.withLink x).pending = s.pending := rfl
@[simp] theorem State.withLink_stopInput (x : LinkItems) : (s.withLink x).stopInput = s.stopInput := rfl
@[simp] theorem State.withLink_node (x : LinkItems) : (s.withLink x).node = s.node := rfl
@[simp] theorem State.withLink_clock (x : LinkItems) : (s.withLink x).clock = s.clock := rfl
@[simp] theorem State.withLink_lastSeq (x : LinkItems) : (s.withLink x).lastSeq = s.lastSeq := rfl
@[simp] theorem State.withLink_commandTimer (x : LinkItems) : (s.withLink x).commandTimer = s.commandTimer := rfl
@[simp] theorem State.withLink_statusTimer (x : LinkItems) : (s.withLink x).statusTimer = s.statusTimer := rfl
@[simp] theorem State.withLink_link (x : LinkItems) : (s.withLink x).link = x := rfl
@[simp] theorem State.withLink_cab (x : LinkItems) : (s.withLink x).cab = s.cab := rfl
@[simp] theorem State.withLink_drive (x : LinkItems) : (s.withLink x).drive = s.drive := rfl
@[simp] theorem State.withLink_routes (x : LinkItems) : (s.withLink x).routes = s.routes := rfl
@[simp] theorem State.withLink_signal (x : LinkItems) : (s.withLink x).signal = s.signal := rfl
@[simp] theorem State.withLink_kelly (x : LinkItems) : (s.withLink x).kelly = s.kelly := rfl
@[simp] theorem State.withLink_tracker (x : LinkItems) : (s.withLink x).tracker = s.tracker := rfl
@[simp] theorem State.withLink_cond (x : LinkItems) : (s.withLink x).cond = s.cond := rfl
@[simp] theorem State.withLink_chan (x : LinkItems) : (s.withLink x).chan = s.chan := rfl
@[simp] theorem State.withLink_bite (x : LinkItems) : (s.withLink x).bite = s.bite := rfl
@[simp] theorem State.withLink_banks (x : LinkItems) : (s.withLink x).banks = s.banks := rfl
@[simp] theorem State.withLink_reservation (x : LinkItems) : (s.withLink x).reservation = s.reservation := rfl
@[simp] theorem State.withLink_faults (x : LinkItems) : (s.withLink x).faults = s.faults := rfl

/-! ### `withCab` -/

@[simp] theorem State.withCab_pending (x : Port) : (s.withCab x).pending = s.pending := rfl
@[simp] theorem State.withCab_stopInput (x : Port) : (s.withCab x).stopInput = s.stopInput := rfl
@[simp] theorem State.withCab_node (x : Port) : (s.withCab x).node = s.node := rfl
@[simp] theorem State.withCab_clock (x : Port) : (s.withCab x).clock = s.clock := rfl
@[simp] theorem State.withCab_lastSeq (x : Port) : (s.withCab x).lastSeq = s.lastSeq := rfl
@[simp] theorem State.withCab_commandTimer (x : Port) : (s.withCab x).commandTimer = s.commandTimer := rfl
@[simp] theorem State.withCab_statusTimer (x : Port) : (s.withCab x).statusTimer = s.statusTimer := rfl
@[simp] theorem State.withCab_link (x : Port) : (s.withCab x).link = s.link := rfl
@[simp] theorem State.withCab_cab (x : Port) : (s.withCab x).cab = x := rfl
@[simp] theorem State.withCab_drive (x : Port) : (s.withCab x).drive = s.drive := rfl
@[simp] theorem State.withCab_routes (x : Port) : (s.withCab x).routes = s.routes := rfl
@[simp] theorem State.withCab_signal (x : Port) : (s.withCab x).signal = s.signal := rfl
@[simp] theorem State.withCab_kelly (x : Port) : (s.withCab x).kelly = s.kelly := rfl
@[simp] theorem State.withCab_tracker (x : Port) : (s.withCab x).tracker = s.tracker := rfl
@[simp] theorem State.withCab_cond (x : Port) : (s.withCab x).cond = s.cond := rfl
@[simp] theorem State.withCab_chan (x : Port) : (s.withCab x).chan = s.chan := rfl
@[simp] theorem State.withCab_bite (x : Port) : (s.withCab x).bite = s.bite := rfl
@[simp] theorem State.withCab_banks (x : Port) : (s.withCab x).banks = s.banks := rfl
@[simp] theorem State.withCab_reservation (x : Port) : (s.withCab x).reservation = s.reservation := rfl
@[simp] theorem State.withCab_faults (x : Port) : (s.withCab x).faults = s.faults := rfl

/-! ### `withDrive` -/

@[simp] theorem State.withDrive_pending (x : Port) : (s.withDrive x).pending = s.pending := rfl
@[simp] theorem State.withDrive_stopInput (x : Port) : (s.withDrive x).stopInput = s.stopInput := rfl
@[simp] theorem State.withDrive_node (x : Port) : (s.withDrive x).node = s.node := rfl
@[simp] theorem State.withDrive_clock (x : Port) : (s.withDrive x).clock = s.clock := rfl
@[simp] theorem State.withDrive_lastSeq (x : Port) : (s.withDrive x).lastSeq = s.lastSeq := rfl
@[simp] theorem State.withDrive_commandTimer (x : Port) : (s.withDrive x).commandTimer = s.commandTimer := rfl
@[simp] theorem State.withDrive_statusTimer (x : Port) : (s.withDrive x).statusTimer = s.statusTimer := rfl
@[simp] theorem State.withDrive_link (x : Port) : (s.withDrive x).link = s.link := rfl
@[simp] theorem State.withDrive_cab (x : Port) : (s.withDrive x).cab = s.cab := rfl
@[simp] theorem State.withDrive_drive (x : Port) : (s.withDrive x).drive = x := rfl
@[simp] theorem State.withDrive_routes (x : Port) : (s.withDrive x).routes = s.routes := rfl
@[simp] theorem State.withDrive_signal (x : Port) : (s.withDrive x).signal = s.signal := rfl
@[simp] theorem State.withDrive_kelly (x : Port) : (s.withDrive x).kelly = s.kelly := rfl
@[simp] theorem State.withDrive_tracker (x : Port) : (s.withDrive x).tracker = s.tracker := rfl
@[simp] theorem State.withDrive_cond (x : Port) : (s.withDrive x).cond = s.cond := rfl
@[simp] theorem State.withDrive_chan (x : Port) : (s.withDrive x).chan = s.chan := rfl
@[simp] theorem State.withDrive_bite (x : Port) : (s.withDrive x).bite = s.bite := rfl
@[simp] theorem State.withDrive_banks (x : Port) : (s.withDrive x).banks = s.banks := rfl
@[simp] theorem State.withDrive_reservation (x : Port) : (s.withDrive x).reservation = s.reservation := rfl
@[simp] theorem State.withDrive_faults (x : Port) : (s.withDrive x).faults = s.faults := rfl

/-! ### `withRoutes` -/

@[simp] theorem State.withRoutes_pending (x : Vector RouteEntry 32) : (s.withRoutes x).pending = s.pending := rfl
@[simp] theorem State.withRoutes_stopInput (x : Vector RouteEntry 32) : (s.withRoutes x).stopInput = s.stopInput := rfl
@[simp] theorem State.withRoutes_node (x : Vector RouteEntry 32) : (s.withRoutes x).node = s.node := rfl
@[simp] theorem State.withRoutes_clock (x : Vector RouteEntry 32) : (s.withRoutes x).clock = s.clock := rfl
@[simp] theorem State.withRoutes_lastSeq (x : Vector RouteEntry 32) : (s.withRoutes x).lastSeq = s.lastSeq := rfl
@[simp] theorem State.withRoutes_commandTimer (x : Vector RouteEntry 32) : (s.withRoutes x).commandTimer = s.commandTimer := rfl
@[simp] theorem State.withRoutes_statusTimer (x : Vector RouteEntry 32) : (s.withRoutes x).statusTimer = s.statusTimer := rfl
@[simp] theorem State.withRoutes_link (x : Vector RouteEntry 32) : (s.withRoutes x).link = s.link := rfl
@[simp] theorem State.withRoutes_cab (x : Vector RouteEntry 32) : (s.withRoutes x).cab = s.cab := rfl
@[simp] theorem State.withRoutes_drive (x : Vector RouteEntry 32) : (s.withRoutes x).drive = s.drive := rfl
@[simp] theorem State.withRoutes_routes (x : Vector RouteEntry 32) : (s.withRoutes x).routes = x := rfl
@[simp] theorem State.withRoutes_signal (x : Vector RouteEntry 32) : (s.withRoutes x).signal = s.signal := rfl
@[simp] theorem State.withRoutes_kelly (x : Vector RouteEntry 32) : (s.withRoutes x).kelly = s.kelly := rfl
@[simp] theorem State.withRoutes_tracker (x : Vector RouteEntry 32) : (s.withRoutes x).tracker = s.tracker := rfl
@[simp] theorem State.withRoutes_cond (x : Vector RouteEntry 32) : (s.withRoutes x).cond = s.cond := rfl
@[simp] theorem State.withRoutes_chan (x : Vector RouteEntry 32) : (s.withRoutes x).chan = s.chan := rfl
@[simp] theorem State.withRoutes_bite (x : Vector RouteEntry 32) : (s.withRoutes x).bite = s.bite := rfl
@[simp] theorem State.withRoutes_banks (x : Vector RouteEntry 32) : (s.withRoutes x).banks = s.banks := rfl
@[simp] theorem State.withRoutes_reservation (x : Vector RouteEntry 32) : (s.withRoutes x).reservation = s.reservation := rfl
@[simp] theorem State.withRoutes_faults (x : Vector RouteEntry 32) : (s.withRoutes x).faults = s.faults := rfl

/-! ### `withSignal` -/

@[simp] theorem State.withSignal_pending (x : SignalStore) : (s.withSignal x).pending = s.pending := rfl
@[simp] theorem State.withSignal_stopInput (x : SignalStore) : (s.withSignal x).stopInput = s.stopInput := rfl
@[simp] theorem State.withSignal_node (x : SignalStore) : (s.withSignal x).node = s.node := rfl
@[simp] theorem State.withSignal_clock (x : SignalStore) : (s.withSignal x).clock = s.clock := rfl
@[simp] theorem State.withSignal_lastSeq (x : SignalStore) : (s.withSignal x).lastSeq = s.lastSeq := rfl
@[simp] theorem State.withSignal_commandTimer (x : SignalStore) : (s.withSignal x).commandTimer = s.commandTimer := rfl
@[simp] theorem State.withSignal_statusTimer (x : SignalStore) : (s.withSignal x).statusTimer = s.statusTimer := rfl
@[simp] theorem State.withSignal_link (x : SignalStore) : (s.withSignal x).link = s.link := rfl
@[simp] theorem State.withSignal_cab (x : SignalStore) : (s.withSignal x).cab = s.cab := rfl
@[simp] theorem State.withSignal_drive (x : SignalStore) : (s.withSignal x).drive = s.drive := rfl
@[simp] theorem State.withSignal_routes (x : SignalStore) : (s.withSignal x).routes = s.routes := rfl
@[simp] theorem State.withSignal_signal (x : SignalStore) : (s.withSignal x).signal = x := rfl
@[simp] theorem State.withSignal_kelly (x : SignalStore) : (s.withSignal x).kelly = s.kelly := rfl
@[simp] theorem State.withSignal_tracker (x : SignalStore) : (s.withSignal x).tracker = s.tracker := rfl
@[simp] theorem State.withSignal_cond (x : SignalStore) : (s.withSignal x).cond = s.cond := rfl
@[simp] theorem State.withSignal_chan (x : SignalStore) : (s.withSignal x).chan = s.chan := rfl
@[simp] theorem State.withSignal_bite (x : SignalStore) : (s.withSignal x).bite = s.bite := rfl
@[simp] theorem State.withSignal_banks (x : SignalStore) : (s.withSignal x).banks = s.banks := rfl
@[simp] theorem State.withSignal_reservation (x : SignalStore) : (s.withSignal x).reservation = s.reservation := rfl
@[simp] theorem State.withSignal_faults (x : SignalStore) : (s.withSignal x).faults = s.faults := rfl

/-! ### `withKelly` -/

@[simp] theorem State.withKelly_pending (x : KellyMap) : (s.withKelly x).pending = s.pending := rfl
@[simp] theorem State.withKelly_stopInput (x : KellyMap) : (s.withKelly x).stopInput = s.stopInput := rfl
@[simp] theorem State.withKelly_node (x : KellyMap) : (s.withKelly x).node = s.node := rfl
@[simp] theorem State.withKelly_clock (x : KellyMap) : (s.withKelly x).clock = s.clock := rfl
@[simp] theorem State.withKelly_lastSeq (x : KellyMap) : (s.withKelly x).lastSeq = s.lastSeq := rfl
@[simp] theorem State.withKelly_commandTimer (x : KellyMap) : (s.withKelly x).commandTimer = s.commandTimer := rfl
@[simp] theorem State.withKelly_statusTimer (x : KellyMap) : (s.withKelly x).statusTimer = s.statusTimer := rfl
@[simp] theorem State.withKelly_link (x : KellyMap) : (s.withKelly x).link = s.link := rfl
@[simp] theorem State.withKelly_cab (x : KellyMap) : (s.withKelly x).cab = s.cab := rfl
@[simp] theorem State.withKelly_drive (x : KellyMap) : (s.withKelly x).drive = s.drive := rfl
@[simp] theorem State.withKelly_routes (x : KellyMap) : (s.withKelly x).routes = s.routes := rfl
@[simp] theorem State.withKelly_signal (x : KellyMap) : (s.withKelly x).signal = s.signal := rfl
@[simp] theorem State.withKelly_kelly (x : KellyMap) : (s.withKelly x).kelly = x := rfl
@[simp] theorem State.withKelly_tracker (x : KellyMap) : (s.withKelly x).tracker = s.tracker := rfl
@[simp] theorem State.withKelly_cond (x : KellyMap) : (s.withKelly x).cond = s.cond := rfl
@[simp] theorem State.withKelly_chan (x : KellyMap) : (s.withKelly x).chan = s.chan := rfl
@[simp] theorem State.withKelly_bite (x : KellyMap) : (s.withKelly x).bite = s.bite := rfl
@[simp] theorem State.withKelly_banks (x : KellyMap) : (s.withKelly x).banks = s.banks := rfl
@[simp] theorem State.withKelly_reservation (x : KellyMap) : (s.withKelly x).reservation = s.reservation := rfl
@[simp] theorem State.withKelly_faults (x : KellyMap) : (s.withKelly x).faults = s.faults := rfl

/-! ### `withTracker` -/

@[simp] theorem State.withTracker_pending (x : Tracker) : (s.withTracker x).pending = s.pending := rfl
@[simp] theorem State.withTracker_stopInput (x : Tracker) : (s.withTracker x).stopInput = s.stopInput := rfl
@[simp] theorem State.withTracker_node (x : Tracker) : (s.withTracker x).node = s.node := rfl
@[simp] theorem State.withTracker_clock (x : Tracker) : (s.withTracker x).clock = s.clock := rfl
@[simp] theorem State.withTracker_lastSeq (x : Tracker) : (s.withTracker x).lastSeq = s.lastSeq := rfl
@[simp] theorem State.withTracker_commandTimer (x : Tracker) : (s.withTracker x).commandTimer = s.commandTimer := rfl
@[simp] theorem State.withTracker_statusTimer (x : Tracker) : (s.withTracker x).statusTimer = s.statusTimer := rfl
@[simp] theorem State.withTracker_link (x : Tracker) : (s.withTracker x).link = s.link := rfl
@[simp] theorem State.withTracker_cab (x : Tracker) : (s.withTracker x).cab = s.cab := rfl
@[simp] theorem State.withTracker_drive (x : Tracker) : (s.withTracker x).drive = s.drive := rfl
@[simp] theorem State.withTracker_routes (x : Tracker) : (s.withTracker x).routes = s.routes := rfl
@[simp] theorem State.withTracker_signal (x : Tracker) : (s.withTracker x).signal = s.signal := rfl
@[simp] theorem State.withTracker_kelly (x : Tracker) : (s.withTracker x).kelly = s.kelly := rfl
@[simp] theorem State.withTracker_tracker (x : Tracker) : (s.withTracker x).tracker = x := rfl
@[simp] theorem State.withTracker_cond (x : Tracker) : (s.withTracker x).cond = s.cond := rfl
@[simp] theorem State.withTracker_chan (x : Tracker) : (s.withTracker x).chan = s.chan := rfl
@[simp] theorem State.withTracker_bite (x : Tracker) : (s.withTracker x).bite = s.bite := rfl
@[simp] theorem State.withTracker_banks (x : Tracker) : (s.withTracker x).banks = s.banks := rfl
@[simp] theorem State.withTracker_reservation (x : Tracker) : (s.withTracker x).reservation = s.reservation := rfl
@[simp] theorem State.withTracker_faults (x : Tracker) : (s.withTracker x).faults = s.faults := rfl

/-! ### `withCond` -/

@[simp] theorem State.withCond_pending (x : Conditioner) : (s.withCond x).pending = s.pending := rfl
@[simp] theorem State.withCond_stopInput (x : Conditioner) : (s.withCond x).stopInput = s.stopInput := rfl
@[simp] theorem State.withCond_node (x : Conditioner) : (s.withCond x).node = s.node := rfl
@[simp] theorem State.withCond_clock (x : Conditioner) : (s.withCond x).clock = s.clock := rfl
@[simp] theorem State.withCond_lastSeq (x : Conditioner) : (s.withCond x).lastSeq = s.lastSeq := rfl
@[simp] theorem State.withCond_commandTimer (x : Conditioner) : (s.withCond x).commandTimer = s.commandTimer := rfl
@[simp] theorem State.withCond_statusTimer (x : Conditioner) : (s.withCond x).statusTimer = s.statusTimer := rfl
@[simp] theorem State.withCond_link (x : Conditioner) : (s.withCond x).link = s.link := rfl
@[simp] theorem State.withCond_cab (x : Conditioner) : (s.withCond x).cab = s.cab := rfl
@[simp] theorem State.withCond_drive (x : Conditioner) : (s.withCond x).drive = s.drive := rfl
@[simp] theorem State.withCond_routes (x : Conditioner) : (s.withCond x).routes = s.routes := rfl
@[simp] theorem State.withCond_signal (x : Conditioner) : (s.withCond x).signal = s.signal := rfl
@[simp] theorem State.withCond_kelly (x : Conditioner) : (s.withCond x).kelly = s.kelly := rfl
@[simp] theorem State.withCond_tracker (x : Conditioner) : (s.withCond x).tracker = s.tracker := rfl
@[simp] theorem State.withCond_cond (x : Conditioner) : (s.withCond x).cond = x := rfl
@[simp] theorem State.withCond_chan (x : Conditioner) : (s.withCond x).chan = s.chan := rfl
@[simp] theorem State.withCond_bite (x : Conditioner) : (s.withCond x).bite = s.bite := rfl
@[simp] theorem State.withCond_banks (x : Conditioner) : (s.withCond x).banks = s.banks := rfl
@[simp] theorem State.withCond_reservation (x : Conditioner) : (s.withCond x).reservation = s.reservation := rfl
@[simp] theorem State.withCond_faults (x : Conditioner) : (s.withCond x).faults = s.faults := rfl

/-! ### `withChan` -/

@[simp] theorem State.withChan_pending (x : ChannelControl) : (s.withChan x).pending = s.pending := rfl
@[simp] theorem State.withChan_stopInput (x : ChannelControl) : (s.withChan x).stopInput = s.stopInput := rfl
@[simp] theorem State.withChan_node (x : ChannelControl) : (s.withChan x).node = s.node := rfl
@[simp] theorem State.withChan_clock (x : ChannelControl) : (s.withChan x).clock = s.clock := rfl
@[simp] theorem State.withChan_lastSeq (x : ChannelControl) : (s.withChan x).lastSeq = s.lastSeq := rfl
@[simp] theorem State.withChan_commandTimer (x : ChannelControl) : (s.withChan x).commandTimer = s.commandTimer := rfl
@[simp] theorem State.withChan_statusTimer (x : ChannelControl) : (s.withChan x).statusTimer = s.statusTimer := rfl
@[simp] theorem State.withChan_link (x : ChannelControl) : (s.withChan x).link = s.link := rfl
@[simp] theorem State.withChan_cab (x : ChannelControl) : (s.withChan x).cab = s.cab := rfl
@[simp] theorem State.withChan_drive (x : ChannelControl) : (s.withChan x).drive = s.drive := rfl
@[simp] theorem State.withChan_routes (x : ChannelControl) : (s.withChan x).routes = s.routes := rfl
@[simp] theorem State.withChan_signal (x : ChannelControl) : (s.withChan x).signal = s.signal := rfl
@[simp] theorem State.withChan_kelly (x : ChannelControl) : (s.withChan x).kelly = s.kelly := rfl
@[simp] theorem State.withChan_tracker (x : ChannelControl) : (s.withChan x).tracker = s.tracker := rfl
@[simp] theorem State.withChan_cond (x : ChannelControl) : (s.withChan x).cond = s.cond := rfl
@[simp] theorem State.withChan_chan (x : ChannelControl) : (s.withChan x).chan = x := rfl
@[simp] theorem State.withChan_bite (x : ChannelControl) : (s.withChan x).bite = s.bite := rfl
@[simp] theorem State.withChan_banks (x : ChannelControl) : (s.withChan x).banks = s.banks := rfl
@[simp] theorem State.withChan_reservation (x : ChannelControl) : (s.withChan x).reservation = s.reservation := rfl
@[simp] theorem State.withChan_faults (x : ChannelControl) : (s.withChan x).faults = s.faults := rfl

/-! ### `withBite` -/

@[simp] theorem State.withBite_pending (x : BiteEngine) : (s.withBite x).pending = s.pending := rfl
@[simp] theorem State.withBite_stopInput (x : BiteEngine) : (s.withBite x).stopInput = s.stopInput := rfl
@[simp] theorem State.withBite_node (x : BiteEngine) : (s.withBite x).node = s.node := rfl
@[simp] theorem State.withBite_clock (x : BiteEngine) : (s.withBite x).clock = s.clock := rfl
@[simp] theorem State.withBite_lastSeq (x : BiteEngine) : (s.withBite x).lastSeq = s.lastSeq := rfl
@[simp] theorem State.withBite_commandTimer (x : BiteEngine) : (s.withBite x).commandTimer = s.commandTimer := rfl
@[simp] theorem State.withBite_statusTimer (x : BiteEngine) : (s.withBite x).statusTimer = s.statusTimer := rfl
@[simp] theorem State.withBite_link (x : BiteEngine) : (s.withBite x).link = s.link := rfl
@[simp] theorem State.withBite_cab (x : BiteEngine) : (s.withBite x).cab = s.cab := rfl
@[simp] theorem State.withBite_drive (x : BiteEngine) : (s.withBite x).drive = s.drive := rfl
@[simp] theorem State.withBite_routes (x : BiteEngine) : (s.withBite x).routes = s.routes := rfl
@[simp] theorem State.withBite_signal (x : BiteEngine) : (s.withBite x).signal = s.signal := rfl
@[simp] theorem State.withBite_kelly (x : BiteEngine) : (s.withBite x).kelly = s.kelly := rfl
@[simp] theorem State.withBite_tracker (x : BiteEngine) : (s.withBite x).tracker = s.tracker := rfl
@[simp] theorem State.withBite_cond (x : BiteEngine) : (s.withBite x).cond = s.cond := rfl
@[simp] theorem State.withBite_chan (x : BiteEngine) : (s.withBite x).chan = s.chan := rfl
@[simp] theorem State.withBite_bite (x : BiteEngine) : (s.withBite x).bite = x := rfl
@[simp] theorem State.withBite_banks (x : BiteEngine) : (s.withBite x).banks = s.banks := rfl
@[simp] theorem State.withBite_reservation (x : BiteEngine) : (s.withBite x).reservation = s.reservation := rfl
@[simp] theorem State.withBite_faults (x : BiteEngine) : (s.withBite x).faults = s.faults := rfl

/-! ### `withBanks` -/

@[simp] theorem State.withBanks_pending (x : ProfileBanks) : (s.withBanks x).pending = s.pending := rfl
@[simp] theorem State.withBanks_stopInput (x : ProfileBanks) : (s.withBanks x).stopInput = s.stopInput := rfl
@[simp] theorem State.withBanks_node (x : ProfileBanks) : (s.withBanks x).node = s.node := rfl
@[simp] theorem State.withBanks_clock (x : ProfileBanks) : (s.withBanks x).clock = s.clock := rfl
@[simp] theorem State.withBanks_lastSeq (x : ProfileBanks) : (s.withBanks x).lastSeq = s.lastSeq := rfl
@[simp] theorem State.withBanks_commandTimer (x : ProfileBanks) : (s.withBanks x).commandTimer = s.commandTimer := rfl
@[simp] theorem State.withBanks_statusTimer (x : ProfileBanks) : (s.withBanks x).statusTimer = s.statusTimer := rfl
@[simp] theorem State.withBanks_link (x : ProfileBanks) : (s.withBanks x).link = s.link := rfl
@[simp] theorem State.withBanks_cab (x : ProfileBanks) : (s.withBanks x).cab = s.cab := rfl
@[simp] theorem State.withBanks_drive (x : ProfileBanks) : (s.withBanks x).drive = s.drive := rfl
@[simp] theorem State.withBanks_routes (x : ProfileBanks) : (s.withBanks x).routes = s.routes := rfl
@[simp] theorem State.withBanks_signal (x : ProfileBanks) : (s.withBanks x).signal = s.signal := rfl
@[simp] theorem State.withBanks_kelly (x : ProfileBanks) : (s.withBanks x).kelly = s.kelly := rfl
@[simp] theorem State.withBanks_tracker (x : ProfileBanks) : (s.withBanks x).tracker = s.tracker := rfl
@[simp] theorem State.withBanks_cond (x : ProfileBanks) : (s.withBanks x).cond = s.cond := rfl
@[simp] theorem State.withBanks_chan (x : ProfileBanks) : (s.withBanks x).chan = s.chan := rfl
@[simp] theorem State.withBanks_bite (x : ProfileBanks) : (s.withBanks x).bite = s.bite := rfl
@[simp] theorem State.withBanks_banks (x : ProfileBanks) : (s.withBanks x).banks = x := rfl
@[simp] theorem State.withBanks_reservation (x : ProfileBanks) : (s.withBanks x).reservation = s.reservation := rfl
@[simp] theorem State.withBanks_faults (x : ProfileBanks) : (s.withBanks x).faults = s.faults := rfl

/-! ### `withReservation` -/

@[simp] theorem State.withReservation_pending (x : Option Reservation) : (s.withReservation x).pending = s.pending := rfl
@[simp] theorem State.withReservation_stopInput (x : Option Reservation) : (s.withReservation x).stopInput = s.stopInput := rfl
@[simp] theorem State.withReservation_node (x : Option Reservation) : (s.withReservation x).node = s.node := rfl
@[simp] theorem State.withReservation_clock (x : Option Reservation) : (s.withReservation x).clock = s.clock := rfl
@[simp] theorem State.withReservation_lastSeq (x : Option Reservation) : (s.withReservation x).lastSeq = s.lastSeq := rfl
@[simp] theorem State.withReservation_commandTimer (x : Option Reservation) : (s.withReservation x).commandTimer = s.commandTimer := rfl
@[simp] theorem State.withReservation_statusTimer (x : Option Reservation) : (s.withReservation x).statusTimer = s.statusTimer := rfl
@[simp] theorem State.withReservation_link (x : Option Reservation) : (s.withReservation x).link = s.link := rfl
@[simp] theorem State.withReservation_cab (x : Option Reservation) : (s.withReservation x).cab = s.cab := rfl
@[simp] theorem State.withReservation_drive (x : Option Reservation) : (s.withReservation x).drive = s.drive := rfl
@[simp] theorem State.withReservation_routes (x : Option Reservation) : (s.withReservation x).routes = s.routes := rfl
@[simp] theorem State.withReservation_signal (x : Option Reservation) : (s.withReservation x).signal = s.signal := rfl
@[simp] theorem State.withReservation_kelly (x : Option Reservation) : (s.withReservation x).kelly = s.kelly := rfl
@[simp] theorem State.withReservation_tracker (x : Option Reservation) : (s.withReservation x).tracker = s.tracker := rfl
@[simp] theorem State.withReservation_cond (x : Option Reservation) : (s.withReservation x).cond = s.cond := rfl
@[simp] theorem State.withReservation_chan (x : Option Reservation) : (s.withReservation x).chan = s.chan := rfl
@[simp] theorem State.withReservation_bite (x : Option Reservation) : (s.withReservation x).bite = s.bite := rfl
@[simp] theorem State.withReservation_banks (x : Option Reservation) : (s.withReservation x).banks = s.banks := rfl
@[simp] theorem State.withReservation_reservation (x : Option Reservation) : (s.withReservation x).reservation = x := rfl
@[simp] theorem State.withReservation_faults (x : Option Reservation) : (s.withReservation x).faults = s.faults := rfl

/-! ### `withFaults` -/

@[simp] theorem State.withFaults_pending (x : FaultMonitor) : (s.withFaults x).pending = s.pending := rfl
@[simp] theorem State.withFaults_stopInput (x : FaultMonitor) : (s.withFaults x).stopInput = s.stopInput := rfl
@[simp] theorem State.withFaults_node (x : FaultMonitor) : (s.withFaults x).node = s.node := rfl
@[simp] theorem State.withFaults_clock (x : FaultMonitor) : (s.withFaults x).clock = s.clock := rfl
@[simp] theorem State.withFaults_lastSeq (x : FaultMonitor) : (s.withFaults x).lastSeq = s.lastSeq := rfl
@[simp] theorem State.withFaults_commandTimer (x : FaultMonitor) : (s.withFaults x).commandTimer = s.commandTimer := rfl
@[simp] theorem State.withFaults_statusTimer (x : FaultMonitor) : (s.withFaults x).statusTimer = s.statusTimer := rfl
@[simp] theorem State.withFaults_link (x : FaultMonitor) : (s.withFaults x).link = s.link := rfl
@[simp] theorem State.withFaults_cab (x : FaultMonitor) : (s.withFaults x).cab = s.cab := rfl
@[simp] theorem State.withFaults_drive (x : FaultMonitor) : (s.withFaults x).drive = s.drive := rfl
@[simp] theorem State.withFaults_routes (x : FaultMonitor) : (s.withFaults x).routes = s.routes := rfl
@[simp] theorem State.withFaults_signal (x : FaultMonitor) : (s.withFaults x).signal = s.signal := rfl
@[simp] theorem State.withFaults_kelly (x : FaultMonitor) : (s.withFaults x).kelly = s.kelly := rfl
@[simp] theorem State.withFaults_tracker (x : FaultMonitor) : (s.withFaults x).tracker = s.tracker := rfl
@[simp] theorem State.withFaults_cond (x : FaultMonitor) : (s.withFaults x).cond = s.cond := rfl
@[simp] theorem State.withFaults_chan (x : FaultMonitor) : (s.withFaults x).chan = s.chan := rfl
@[simp] theorem State.withFaults_bite (x : FaultMonitor) : (s.withFaults x).bite = s.bite := rfl
@[simp] theorem State.withFaults_banks (x : FaultMonitor) : (s.withFaults x).banks = s.banks := rfl
@[simp] theorem State.withFaults_reservation (x : FaultMonitor) : (s.withFaults x).reservation = s.reservation := rfl
@[simp] theorem State.withFaults_faults (x : FaultMonitor) : (s.withFaults x).faults = x := rfl

end Sys2Proof.Machine
end

