-- ==== Sys2Proof/Laws/Frame.lean ====
section
/-! SUPPORT. Frames: for every shared operation, the blocks it can change. Proofs cite these and do not unfold the
operation. -/

namespace Sys2Proof.Machine

/-! ## Calculus of frames -/

theorem unchangedExcept_refl (l : List Block) (s : State) : unchangedExcept l s s :=
  ⟨rfl, fun b _ => by cases b <;> rfl⟩

theorem sameBlock_trans {s t u : State} {b : Block} (h₁ : sameBlock s t b) (h₂ : sameBlock t u b) : sameBlock s u b := by
  cases b <;> exact Eq.trans h₂ h₁

theorem unchangedExcept_trans {l : List Block} {s t u : State} (h₁ : unchangedExcept l s t)
    (h₂ : unchangedExcept l t u) : unchangedExcept l s u :=
  ⟨h₂.1.trans h₁.1, fun b hb => sameBlock_trans (h₁.2 b hb) (h₂.2 b hb)⟩

theorem unchangedExcept_mono {l m : List Block} {s t : State} (hlm : l ⊆ m) (h : unchangedExcept l s t) :
    unchangedExcept m s t :=
  ⟨h.1, fun b hb => h.2 b (fun hl => hb (hlm hl))⟩

/-- Two operations in turn. -/
theorem unchangedExcept_comp {l m n : List Block} {s t u : State} (h₁ : unchangedExcept l s t)
    (h₂ : unchangedExcept m t u) (hl : l ⊆ n) (hm : m ⊆ n) : unchangedExcept n s u :=
  unchangedExcept_trans (unchangedExcept_mono hl h₁) (unchangedExcept_mono hm h₂)

/-! ## One field -/

theorem withCab_frame (s : State) (x : Port) : unchangedExcept [.cab] s (s.withCab x) :=
  ⟨rfl, fun b hb => by cases b <;> first | rfl | simp at hb⟩

theorem withDrive_frame (s : State) (x : Port) : unchangedExcept [.drive] s (s.withDrive x) :=
  ⟨rfl, fun b hb => by cases b <;> first | rfl | simp at hb⟩

theorem withRoutes_frame (s : State) (x : Vector RouteEntry 32) : unchangedExcept [.routes] s (s.withRoutes x) :=
  ⟨rfl, fun b hb => by cases b <;> first | rfl | simp at hb⟩

theorem withSignal_frame (s : State) (x : SignalStore) : unchangedExcept [.signal] s (s.withSignal x) :=
  ⟨rfl, fun b hb => by cases b <;> first | rfl | simp at hb⟩

theorem withKelly_frame (s : State) (x : KellyMap) : unchangedExcept [.kelly] s (s.withKelly x) :=
  ⟨rfl, fun b hb => by cases b <;> first | rfl | simp at hb⟩

theorem withTracker_frame (s : State) (x : Tracker) : unchangedExcept [.tracker] s (s.withTracker x) :=
  ⟨rfl, fun b hb => by cases b <;> first | rfl | simp at hb⟩

theorem withCond_frame (s : State) (x : Conditioner) : unchangedExcept [.cond] s (s.withCond x) :=
  ⟨rfl, fun b hb => by cases b <;> first | rfl | simp at hb⟩

theorem withChan_frame (s : State) (x : ChannelControl) : unchangedExcept [.chan] s (s.withChan x) :=
  ⟨rfl, fun b hb => by cases b <;> first | rfl | simp at hb⟩

theorem withBite_frame (s : State) (x : BiteEngine) : unchangedExcept [.bite] s (s.withBite x) :=
  ⟨rfl, fun b hb => by cases b <;> first | rfl | simp at hb⟩

theorem withBanks_frame (s : State) (x : ProfileBanks) : unchangedExcept [.banks] s (s.withBanks x) :=
  ⟨rfl, fun b hb => by cases b <;> first | rfl | simp at hb⟩

theorem withReservation_frame (s : State) (x : Option Reservation) :
    unchangedExcept [.reservation] s (s.withReservation x) :=
  ⟨rfl, fun b hb => by cases b <;> first | rfl | simp at hb⟩

theorem withFaults_frame (s : State) (x : FaultMonitor) : unchangedExcept [.faults] s (s.withFaults x) :=
  ⟨rfl, fun b hb => by cases b <;> first | rfl | simp at hb⟩

theorem withLink_frame (s : State) (x : LinkItems) : unchangedExcept [.link] s (s.withLink x) :=
  ⟨rfl, fun b hb => by cases b <;> first | rfl | simp at hb⟩

theorem withCommandTimer_frame (s : State) (x : Nat) : unchangedExcept [.commandTimer] s (s.withCommandTimer x) :=
  ⟨rfl, fun b hb => by cases b <;> first | rfl | simp at hb⟩

theorem withStatusTimer_frame (s : State) (x : Nat) : unchangedExcept [.statusTimer] s (s.withStatusTimer x) :=
  ⟨rfl, fun b hb => by cases b <;> first | rfl | simp at hb⟩

theorem withLastSeq_frame (s : State) (x : Byte) : unchangedExcept [.lastSeq] s (s.withLastSeq x) :=
  ⟨rfl, fun b hb => by cases b <;> first | rfl | simp at hb⟩

/-- The block of a port. -/
def portBlock : PortId → Block
  | .cab => .cab
  | .drive => .drive

theorem withPort_frame (s : State) (p : PortId) (x : Port) : unchangedExcept [portBlock p] s (s.withPort p x) := by
  cases p
  · exact withCab_frame s x
  · exact withDrive_frame s x

/-! ## Ports, faults, monitors -/

theorem queueCab_frame (s : State) (k : FrameKind) (d : List Byte) : unchangedExcept [.cab] s (s.queueCab k d) :=
  withCab_frame s _

theorem queueDrive_frame (s : State) (sp : PerChannel Int) (f : LimitFlags) (q : Byte) :
    unchangedExcept [.drive] s (s.queueDrive sp f q) :=
  withDrive_frame s _

theorem forward_frame (s : State) (p : PortId) (f : Frame) :
    unchangedExcept [portBlock (otherPort p)] s (s.forward p f) :=
  withPort_frame s _ _

theorem record_frame (s : State) (c : Cause) : unchangedExcept [.faults] s (s.record c) := withFaults_frame s _

theorem withPrev_frame (s : State) (sp : PerChannel Int) : unchangedExcept [.cond] s (s.withPrev sp) :=
  withCond_frame s _

theorem followChannel_frame (s : State) (c : Channel) (x : Int) :
    unchangedExcept [.chan, .faults] s (s.followChannel c x) := by
  unfold State.followChannel
  dsimp only
  split
  · exact unchangedExcept_comp (withChan_frame s _) (record_frame _ _) (by simp) (by simp)
  · exact unchangedExcept_mono (by simp) (withChan_frame s _)

theorem followFrame_frame (s : State) (sp : PerChannel Int) :
    unchangedExcept [.chan, .faults] s (s.followFrame sp) :=
  unchangedExcept_trans
    (unchangedExcept_trans (followChannel_frame s _ _) (followChannel_frame _ _ _)) (followChannel_frame _ _ _)

theorem zeroFrame_frame (s : State) : unchangedExcept [.drive, .cond, .chan, .faults] s s.zeroFrame :=
  unchangedExcept_comp (unchangedExcept_comp (n := [.drive, .cond]) (queueDrive_frame s _ _ _) (withPrev_frame _ _)
    (by simp) (by simp)) (followFrame_frame _ _) (by simp) (by simp)

/-- The blocks an exit from CUT may reach. -/
abbrev biteBlocks : List Block := [.bite, .banks, .reservation, .faults]

theorem switchBanks_frame (s : State) : unchangedExcept [.banks, .reservation, .faults] s s.switchBanks :=
  unchangedExcept_comp (unchangedExcept_comp (n := [.banks, .reservation]) (withBanks_frame s _)
    (withReservation_frame _ _) (by simp) (by simp)) (record_frame _ _) (by simp) (by simp)

theorem reportCutExit_frame (s : State) : unchangedExcept [.banks, .reservation, .faults] s s.reportCutExit := by
  unfold State.reportCutExit
  split
  · exact switchBanks_frame s
  · exact unchangedExcept_refl _ s

/-! ## Bite Engine -/

theorem biteLeave_frame (s : State) (n : BiteState) : unchangedExcept biteBlocks s (s.biteLeave n) := by
  unfold State.biteLeave
  dsimp only
  split
  · exact unchangedExcept_comp (withBite_frame s _) (reportCutExit_frame _) (by simp) (by simp)
  · exact unchangedExcept_mono (by simp) (withBite_frame s _)

theorem mapContext_frame (s : State) (f : BiteContext → BiteContext) :
    unchangedExcept biteBlocks s (s.mapContext f) :=
  unchangedExcept_mono (by simp) (withBite_frame s _)

theorem withBite_biteBlocks (s : State) (x : BiteEngine) : unchangedExcept biteBlocks s (s.withBite x) :=
  unchangedExcept_mono (by simp) (withBite_frame s x)

theorem record_biteBlocks (s : State) (c : Cause) : unchangedExcept biteBlocks s (s.record c) :=
  unchangedExcept_mono (by simp) (record_frame s c)

theorem biteEnd_frame (s : State) (o : BiteOutcome) : unchangedExcept biteBlocks s (s.biteEnd o) :=
  unchangedExcept_trans (biteLeave_frame s _) (withBite_biteBlocks _ _)

theorem enterCut_frame (s : State) : unchangedExcept biteBlocks s s.enterCut :=
  unchangedExcept_trans (biteLeave_frame s _) (withBite_biteBlocks _ _)

theorem engageCheck_frame (s : State) : unchangedExcept biteBlocks s s.engageCheck := by
  unfold State.engageCheck
  split
  · exact enterCut_frame s
  · exact unchangedExcept_refl _ s

theorem enterEngage_frame (s : State) : unchangedExcept biteBlocks s s.enterEngage :=
  unchangedExcept_trans (biteLeave_frame s _) (engageCheck_frame _)

theorem enterJammed_frame (s : State) (c : JamCause) : unchangedExcept biteBlocks s (s.enterJammed c) :=
  unchangedExcept_trans (unchangedExcept_trans (biteLeave_frame s _) (mapContext_frame _ _)) (withBite_biteBlocks _ _)

theorem enterRegrip_frame (s : State) : unchangedExcept biteBlocks s s.enterRegrip :=
  unchangedExcept_trans (biteLeave_frame s _) (mapContext_frame _ _)

theorem enterSettle_frame (s : State) : unchangedExcept biteBlocks s s.enterSettle := by
  unfold State.enterSettle
  dsimp only
  split
  · exact unchangedExcept_trans (biteLeave_frame s _) (biteEnd_frame _ _)
  · exact unchangedExcept_trans (biteLeave_frame s _) (withBite_biteBlocks _ _)

theorem biteTrackerChange_frame (s : State) : unchangedExcept biteBlocks s s.biteTrackerChange := by
  unfold State.biteTrackerChange
  repeat' split
  all_goals first
    | exact engageCheck_frame s
    | exact enterEngage_frame s
    | exact enterJammed_frame s _
    | exact unchangedExcept_refl _ s

theorem biteHeadTest_frame (s : State) : unchangedExcept biteBlocks s s.biteHeadTest := by
  unfold State.biteHeadTest
  repeat' split
  all_goals first
    | exact enterRegrip_frame s
    | exact enterEngage_frame s
    | exact unchangedExcept_refl _ s

theorem biteDepth_frame (s : State) : unchangedExcept biteBlocks s s.biteDepth := by
  unfold State.biteDepth
  dsimp only
  repeat' split
  · exact unchangedExcept_trans (withBite_biteBlocks s _) (enterSettle_frame _)
  · exact unchangedExcept_trans (withBite_biteBlocks s _) (withBite_biteBlocks _ _)
  · exact withBite_biteBlocks s _
  · exact unchangedExcept_refl _ s

theorem biteSlotEvent_frame (s : State) (i : SlotId) (c : Bool) :
    unchangedExcept biteBlocks s (s.biteSlotEvent i c) := by
  have hstep : unchangedExcept biteBlocks s (if c = true then s.biteTrackerChange else s) := by
    split
    · exact biteTrackerChange_frame s
    · exact unchangedExcept_refl _ s
  unfold State.biteSlotEvent
  dsimp only
  generalize (if c = true then s.biteTrackerChange else s) = u at hstep ⊢
  refine unchangedExcept_trans hstep ?_
  split_ifs
  · exact mapContext_frame u _
  · exact mapContext_frame u _
  · exact biteHeadTest_frame u
  · exact biteDepth_frame u
  · exact unchangedExcept_refl _ u

theorem biteStart_frame (s : State) : unchangedExcept biteBlocks s s.biteStart := by
  unfold State.biteStart
  split
  · exact unchangedExcept_trans (withBite_biteBlocks s _) (engageCheck_frame _)
  · exact record_biteBlocks s _

theorem biteAbortAction_frame (s : State) : unchangedExcept biteBlocks s s.biteAbortAction := by
  unfold State.biteAbortAction
  repeat' split
  all_goals first
    | exact record_biteBlocks s _
    | exact biteEnd_frame s _
    | exact unchangedExcept_refl _ s

theorem biteResume_frame (s : State) : unchangedExcept biteBlocks s s.biteResume := by
  unfold State.biteResume
  split
  · exact enterEngage_frame s
  · exact record_biteBlocks s _

theorem biteAction_frame (s : State) (a : Action) : unchangedExcept biteBlocks s (s.biteAction a) := by
  cases a
  · exact unchangedExcept_refl _ s
  · exact biteStart_frame s
  · exact biteAbortAction_frame s
  · exact biteResume_frame s

theorem biteOutsideAbort_frame (s : State) : unchangedExcept biteBlocks s s.biteOutsideAbort := by
  unfold State.biteOutsideAbort
  split
  · exact unchangedExcept_refl _ s
  · exact biteEnd_frame s _

/-! ## Trips -/

/-- The blocks a trip may reach. -/
abbrev tripBlocks : List Block := [.drive, .cond, .chan, .faults, .bite, .banks, .reservation]

theorem goNeutral_frame (s : State) : unchangedExcept tripBlocks s s.goNeutral :=
  unchangedExcept_comp (zeroFrame_frame s) (biteOutsideAbort_frame _) (by simp) (by simp)

theorem reportTrip_frame (s : State) (c : Cause) : unchangedExcept tripBlocks s (s.reportTrip c) := by
  have hrec : unchangedExcept tripBlocks s (s.record c) := unchangedExcept_mono (by simp) (record_frame s c)
  have hset : ∀ x, unchangedExcept tripBlocks s ((s.record c).withFaults x).goNeutral := fun x =>
    unchangedExcept_trans
      (unchangedExcept_trans hrec (unchangedExcept_mono (by simp) (withFaults_frame _ x))) (goNeutral_frame _)
  unfold State.reportTrip
  dsimp only
  repeat' split
  · exact hrec
  · exact hset _
  · exact hset _

/-! ## Tracker and slots -/

theorem trackerLose_frame (s : State) (c : LossCause) : unchangedExcept [.tracker, .faults] s (s.trackerLose c) :=
  unchangedExcept_comp (withTracker_frame s _) (record_frame _ _) (by simp) (by simp)

theorem trackerDistribute_frame (s : State) (d : Int) :
    unchangedExcept [.tracker, .faults] s (s.trackerDistribute d) := by
  unfold State.trackerDistribute
  dsimp only
  split
  · exact unchangedExcept_mono (by simp) (withTracker_frame s _)
  · exact trackerLose_frame s _

theorem positionTests_frame (s : State) : unchangedExcept [.tracker, .faults] s s.positionTests := by
  unfold State.positionTests
  repeat' split
  all_goals first
    | exact unchangedExcept_refl _ s
    | exact trackerLose_frame s _
    | exact unchangedExcept_mono (by simp) (withTracker_frame s _)
    | exact trackerDistribute_frame s _

theorem positionUpdate_frame (s : State) : unchangedExcept [.tracker, .faults] s s.positionUpdate :=
  unchangedExcept_trans (unchangedExcept_mono (by simp) (withTracker_frame s _)) (positionTests_frame _)

theorem pressureUpdate_frame (s : State) : unchangedExcept [.tracker] s s.pressureUpdate := by
  unfold State.pressureUpdate
  split_ifs
  · exact unchangedExcept_refl _ s
  · exact withTracker_frame s _
  · exact withTracker_frame s _
  · exact unchangedExcept_refl _ s

theorem trackerSlotEvent_frame (s : State) (i : SlotId) :
    unchangedExcept [.tracker, .faults] s (s.trackerSlotEvent i) := by
  unfold State.trackerSlotEvent
  repeat' split
  · exact positionUpdate_frame s
  · exact unchangedExcept_mono (by simp) (pressureUpdate_frame s)
  · exact unchangedExcept_refl _ s

theorem overloadTest_frame (s : State) : unchangedExcept [.chan, .faults] s s.overloadTest := by
  unfold State.overloadTest State.withOverloadCount
  repeat' split
  all_goals first
    | exact unchangedExcept_mono (by simp) (withChan_frame s _)
    | exact unchangedExcept_comp (withChan_frame s _) (record_frame _ _) (by simp) (by simp)

/-- The blocks a slot event may reach. -/
abbrev eventBlocks : List Block := [.tracker, .faults, .bite, .banks, .reservation, .chan]

theorem slotEvent_frame (s : State) (i : SlotId) : unchangedExcept eventBlocks s (s.slotEvent i) := by
  have hbite : unchangedExcept eventBlocks s ((s.trackerSlotEvent i).biteSlotEvent i
      (trackerChanged s.kelly.items s.tracker (s.trackerSlotEvent i).tracker)) :=
    unchangedExcept_comp (trackerSlotEvent_frame s i) (biteSlotEvent_frame _ _ _) (by simp) (by simp)
  unfold State.slotEvent
  dsimp only
  split
  · exact unchangedExcept_comp hbite (overloadTest_frame _) (by simp) (by simp)
  · exact hbite

/-- The blocks a change of a slot may reach. -/
abbrev slotBlocks : List Block := [.signal, .tracker, .faults, .bite, .banks, .reservation, .chan]

theorem refreshDerived_frame (s : State) (i : SlotId) : unchangedExcept [.signal] s (s.refreshDerived i) := by
  unfold State.refreshDerived State.refreshTorque State.refreshCrowd
  split_ifs
  · exact withSignal_frame s _
  · exact withSignal_frame s _
  · exact unchangedExcept_refl _ s

theorem deliverSlot_frame (s : State) (i : SlotId) : unchangedExcept slotBlocks s (s.deliverSlot i) :=
  unchangedExcept_comp (refreshDerived_frame s i) (slotEvent_frame _ i) (by simp) (by simp)

theorem storeSlot_frame (s : State) (i : SlotId) (r : Slot) :
    unchangedExcept [.signal, .faults] s (s.storeSlot i r) := by
  unfold State.storeSlot
  dsimp only
  split
  · exact unchangedExcept_comp (withSignal_frame s _) (record_frame _ _) (by simp) (by simp)
  · exact unchangedExcept_mono (by simp) (withSignal_frame s _)

theorem takeSample_frame (s : State) (i : SlotId) (v : Int) : unchangedExcept slotBlocks s (s.takeSample i v) :=
  unchangedExcept_comp (storeSlot_frame s i _) (deliverSlot_frame _ i) (by simp) (by simp)

theorem judgeSlot_frame (s : State) (i : SlotId) (r : Slot) : unchangedExcept slotBlocks s (s.judgeSlot i r) := by
  unfold State.judgeSlot
  dsimp only
  split
  · exact unchangedExcept_mono (by simp) (storeSlot_frame s i r)
  · exact unchangedExcept_comp (storeSlot_frame s i r) (deliverSlot_frame _ i) (by simp) (by simp)

theorem configureSlot_frame (s : State) (i : SlotId) (c : SlotConfig) :
    unchangedExcept slotBlocks s (s.configureSlot i c) := by
  unfold State.configureSlot
  dsimp only
  split
  · exact unchangedExcept_mono (by simp) (withSignal_frame s _)
  · exact unchangedExcept_comp (withSignal_frame s _) (deliverSlot_frame _ i) (by simp) (by simp)

/-! ## Command conditioning -/

theorem applyStall_frame (s : State) (o : StageOutput) : unchangedExcept [.cond, .faults] s (s.applyStall o) := by
  unfold State.applyStall
  dsimp only
  split
  · exact unchangedExcept_comp (withCond_frame s _) (record_frame _ _) (by simp) (by simp)
  · exact unchangedExcept_mono (by simp) (withCond_frame s _)

/-- The blocks the emission of a frame may reach. -/
abbrev emitBlocks : List Block := [.cab, .drive, .cond, .chan, .faults]

theorem emit_frame (s : State) (sp : PerChannel Int) (f : LimitFlags) (q : Byte) :
    unchangedExcept emitBlocks s (s.emit sp f q) := by
  unfold State.emit
  split
  · exact unchangedExcept_comp (unchangedExcept_comp (n := [.drive, .cond]) (queueDrive_frame s _ _ _)
      (withPrev_frame _ _) (by simp) (by simp)) (followFrame_frame _ _) (by simp) (by simp)
  · exact unchangedExcept_comp (unchangedExcept_comp (n := [.cab, .drive, .cond])
      (unchangedExcept_comp (n := [.cab, .drive]) (queueCab_frame s _ _) (queueDrive_frame _ _ _ _) (by simp) (by simp))
      (withPrev_frame _ _) (by simp) (by simp)) (followFrame_frame _ _) (by simp) (by simp)

theorem conditionCommand_frame (s : State) (r : PerChannel Int) (q : Byte) :
    unchangedExcept emitBlocks s (s.conditionCommand r q) :=
  unchangedExcept_comp (applyStall_frame s _) (emit_frame _ _ _ _) (by simp) (by simp)

theorem acceptCommand_frame (s : State) (d : List Byte) :
    unchangedExcept [.lastSeq, .commandTimer] s (s.acceptCommand d) :=
  unchangedExcept_comp (withLastSeq_frame s _) (withCommandTimer_frame _ _) (by simp) (by simp)

theorem withAction_frame (s : State) (a : Action) : unchangedExcept [.cond] s (s.withAction a) := withCond_frame s _

theorem handOff_frame (s : State) (n : Nat) :
    unchangedExcept [.bite, .banks, .reservation, .faults, .cond] s (s.handOff n) := by
  unfold State.handOff
  split
  · exact unchangedExcept_comp (record_frame s _) (withAction_frame _ _) (by simp) (by simp)
  · split
    · exact unchangedExcept_comp (biteAction_frame s _) (withAction_frame _ _) (by simp) (by simp)
    · exact unchangedExcept_mono (by simp) (withAction_frame s _)

/-- The blocks a drive command may reach. -/
abbrev commandBlocks : List Block :=
  [.lastSeq, .commandTimer, .bite, .banks, .reservation, .faults, .cond, .cab, .drive, .chan]

theorem takeCommand_frame (s : State) (d : List Byte) : unchangedExcept commandBlocks s (s.takeCommand d) := by
  unfold State.takeCommand
  split
  · exact unchangedExcept_mono (by simp) (record_frame s _)
  · exact unchangedExcept_comp (unchangedExcept_comp (n := [.lastSeq, .commandTimer, .bite, .banks, .reservation,
      .faults, .cond]) (acceptCommand_frame s d) (handOff_frame _ _) (by simp) (by simp))
      (conditionCommand_frame _ _ _) (by simp) (by simp)

/-! ## Restart and timers -/

/-- The blocks a governor restart may reach. -/
abbrev restartBlockList : List Block :=
  [.commandTimer, .drive, .signal, .tracker, .cond, .chan, .bite, .banks, .reservation, .faults]

theorem restartBlocks_frame (s : State) : unchangedExcept restartBlockList s s.restartBlocks := by
  have hbanks : unchangedExcept restartBlockList s s.restartBanks :=
    unchangedExcept_comp (withBanks_frame s _) (withReservation_frame _ _) (by simp) (by simp)
  have hbite := unchangedExcept_trans hbanks
    (unchangedExcept_mono (m := restartBlockList) (by simp) (biteOutsideAbort_frame s.restartBanks))
  unfold State.restartBlocks State.restartSlots State.restartTracker State.restartFaults State.refreshTorque
    State.refreshCrowd
  dsimp only
  refine unchangedExcept_trans ?_ (unchangedExcept_mono (by simp) (withFaults_frame _ _))
  refine unchangedExcept_trans ?_ (unchangedExcept_mono (by simp) (withCommandTimer_frame _ _))
  refine unchangedExcept_trans ?_ (unchangedExcept_mono (by simp) (withTracker_frame _ _))
  refine unchangedExcept_trans ?_ (unchangedExcept_mono (by simp) (withSignal_frame _ _))
  refine unchangedExcept_trans ?_ (unchangedExcept_mono (by simp) (withSignal_frame _ _))
  refine unchangedExcept_trans ?_ (unchangedExcept_mono (by simp) (withSignal_frame _ _))
  refine unchangedExcept_trans ?_ (unchangedExcept_mono (by simp) (withChan_frame _ _))
  exact unchangedExcept_trans hbite (unchangedExcept_mono (by simp) (withCond_frame _ _))

theorem restart_frame (s : State) : unchangedExcept restartBlockList s s.restart := by
  have htrip : ∀ (u : State) (c : Cause), unchangedExcept restartBlockList u (u.reportTrip c) := fun u c =>
    unchangedExcept_mono (by simp) (reportTrip_frame u c)
  unfold State.restart State.reportDriveLink State.reportStopLine
  refine unchangedExcept_trans (restartBlocks_frame s) ?_
  repeat' split
  · exact unchangedExcept_trans (htrip _ _) (htrip _ _)
  · exact htrip _ _
  · exact htrip _ _
  · exact unchangedExcept_refl _ _

theorem commandAbsent_frame (s : State) :
    unchangedExcept [.commandTimer, .drive, .cond, .chan, .faults, .bite, .banks, .reservation] s s.commandAbsent := by
  unfold State.commandAbsent
  refine unchangedExcept_trans ?_ (unchangedExcept_mono (by simp) (biteOutsideAbort_frame _))
  refine unchangedExcept_trans ?_ (unchangedExcept_mono (by simp) (record_frame _ _))
  refine unchangedExcept_trans ?_ (unchangedExcept_mono (by simp) (zeroFrame_frame _))
  exact unchangedExcept_mono (by simp) (withCommandTimer_frame s _)

theorem noProgress_frame (s : State) : unchangedExcept biteBlocks s s.noProgress := by
  unfold State.noProgress
  split
  · exact unchangedExcept_trans (enterJammed_frame s _) (record_biteBlocks _ _)
  all_goals exact unchangedExcept_refl _ s

theorem settleOver_frame (s : State) : unchangedExcept biteBlocks s s.settleOver := by
  unfold State.settleOver
  split
  · exact biteEnd_frame s _
  all_goals exact unchangedExcept_refl _ s

theorem sendStatus_frame (s : State) : unchangedExcept [.statusTimer, .cab] s s.sendStatus :=
  unchangedExcept_comp (withStatusTimer_frame s _) (queueCab_frame _ _ _) (by simp) (by simp)

end Sys2Proof.Machine
end

