-- ==== Sys2Proof/Laws/Bites.lean ====
section
/-! SUPPORT. What the transitions of the Bite Engine can do: the engine's record after each, and the banks (R116 to R126,
R140, R141). -/

namespace Sys2Proof.Machine

/-- An exit from CUT applies a pending switch, and otherwise leaves the banks and the reservation (R126, R141). -/
theorem reportCutExit_switched (s : State) : switchedIf s.banks.pendingSwitch s s.reportCutExit := by
  unfold State.reportCutExit
  split
  · rename_i h
    rw [h]
    exact ⟨rfl, rfl⟩
  · rename_i h
    rw [Bool.eq_false_iff.mpr h]
    exact ⟨rfl, rfl⟩

theorem reportCutExit_bite (s : State) : s.reportCutExit.bite = s.bite := by
  unfold State.reportCutExit
  split <;> rfl

/-- The engine's record after a departure (R112, R120, R124). -/
@[simp] theorem biteLeave_bite (s : State) (n : BiteState) :
    (s.biteLeave n).bite =
      { s.bite with state := n, jamCause := none, progressTimer := none, settleTimer := none } := by
  unfold State.biteLeave
  dsimp only
  split
  · exact reportCutExit_bite _
  · rfl

/-- The banks after a departure: a switch takes effect exactly on an exit from CUT with one pending (R126, R141). -/
theorem biteLeave_switched (s : State) (n : BiteState) :
    switchedIf (decide (s.bite.state = .cut) && s.banks.pendingSwitch) s (s.biteLeave n) := by
  unfold State.biteLeave
  dsimp only
  split
  · rename_i h
    rw [decide_eq_true h, Bool.true_and]
    exact reportCutExit_switched
      (s.withBite { s.bite with state := n, jamCause := none, progressTimer := none, settleTimer := none })
  · rename_i h
    rw [decide_eq_false h, Bool.false_and]
    exact ⟨rfl, rfl⟩

/-- The return to IDLE (R129). -/
theorem biteEnd_bite (s : State) (o : BiteOutcome) :
    (s.biteEnd o).bite =
      { s.bite with
        state := .idle, jamCause := none, progressTimer := none, settleTimer := none, ctx := none
        log := (s.bite.ctx.map fun x => appendBite s.bite.log (x.toRecord s.clock o)).getD s.bite.log } := by
  have hc : (s.biteLeave .idle).clock = s.clock := (biteLeave_frame s .idle).2 .clock (by decide)
  simp only [State.biteEnd, State.withBite_bite, biteLeave_bite, hc]
  cases s.bite.ctx <;> rfl

theorem biteEnd_switched (s : State) (o : BiteOutcome) :
    switchedIf (decide (s.bite.state = .cut) && s.banks.pendingSwitch) s (s.biteEnd o) := biteLeave_switched s .idle

/-- A record appended to the log, as the claims say it (R130). -/
theorem appendBite_logAppended (l : List BiteRecord) (r : BiteRecord) : logAppended l (appendBite l r) r := by
  constructor
  · intro h
    simp [appendBite, Config.biteLogPlaces, Nat.not_le.mpr h]
  · intro h
    simp [appendBite, Config.biteLogPlaces, h, List.drop_one]

/-- Entry to JAMMED (R118, R120). -/
theorem enterJammed_bite (s : State) (c : JamCause) :
    (s.enterJammed c).bite =
      { s.bite with
        state := .jammed, jamCause := some c, progressTimer := none, settleTimer := none
        ctx := s.bite.ctx.map (fun x => { x with jams := bump x.jams 255 }) } := by
  simp only [State.enterJammed, State.mapContext, State.withBite_bite, biteLeave_bite]

/-- Entry to REGRIP (R121). -/
theorem enterRegrip_bite (s : State) :
    s.enterRegrip.bite =
      { s.bite with
        state := .regrip, jamCause := none, progressTimer := none, settleTimer := none
        ctx := s.bite.ctx.map (fun x => { x with regrips := bump x.regrips 255 }) } := by
  simp only [State.enterRegrip, State.mapContext, State.withBite_bite, biteLeave_bite]

end Sys2Proof.Machine
end

