-- ==== Sys2Proof/Laws/Conditioning.lean ====
section
/-! SUPPORT. What the stages read and leave, in the words of the statements (R73 to R90). -/

namespace Sys2Proof.Machine

/-- Each bit of the flags byte is its flag (Table 11-1). -/
theorem flags_byte_bits (f : LimitFlags) :
    f.byte.getLsbD 0 = f.env ∧ f.byte.getLsbD 1 = f.spdcap ∧ f.byte.getLsbD 2 = f.derate ∧ f.byte.getLsbD 3 = f.kelly ∧
    f.byte.getLsbD 4 = f.gate ∧ f.byte.getLsbD 5 = f.ramp ∧ f.byte.getLsbD 6 = f.hoist ∧ f.byte.getLsbD 7 = f.forced := by
  rcases f with ⟨f0, f1, f2, f3, f4, f5, f6, f7⟩
  revert f0 f1 f2 f3 f4 f5 f6 f7
  decide

/-- The gate is closed in the four states of R81. -/
theorem gateClosed_iff_gated (u : State) : gateClosed u.bite.state = true ↔ u.gated := by
  unfold State.gated
  cases u.bite.state <;> simp [gateClosed]

/-- The cap of a bite state (R77). -/
theorem speedCap_eq_capOf (u : State) : speedCap u.activeBank u.bite.state = u.capOf := by
  unfold State.capOf
  cases u.bite.state <;> simp [speedCap] <;> rfl

/-- Conditioning a command leaves the conditioner with what the stages sent, and the stall latch and count (R79, R90). -/
theorem conditionCommand_cond (u : State) (r : PerChannel Int) (q : Byte) :
    (u.conditionCommand r q).cond =
      { u.cond with prev := (u.stageOutput r).sent, stallLatch := (u.stageOutput r).latch
                    stallCount := (u.stageOutput r).count } := by
  unfold State.conditionCommand State.emit State.applyStall
  dsimp only
  split <;> split <;> (rw [(followFrame_frame _ _).2 .cond (by decide)]; rfl)

end Sys2Proof.Machine
end

