-- ==== Sys2Proof/Laws/Faults.lean ====
section
/-! SUPPORT. What a report can do to the Fault Monitor (R159 to R162). -/

namespace Sys2Proof.Machine

/-- A report raises a count or appends a record (R159). -/
theorem record_cases (s : State) (c : Cause) :
    (s.faults.holds c = true ∧
      (s.record c).faults = { s.faults with queue := raiseCount c s.faults.queue }) ∨
    (s.faults.holds c = false ∧
      (s.record c).faults = { s.faults with queue := appendRecord s.faults.queue (s.makeRecord c) }) := by
  cases h : s.faults.holds c
  · exact Or.inr ⟨rfl, by simp [State.record, h]⟩
  · exact Or.inl ⟨rfl, by simp [State.record, h]⟩

@[simp] theorem record_tripPending (s : State) (c : Cause) : (s.record c).faults.tripPending = s.faults.tripPending := rfl

@[simp] theorem record_lockout (s : State) (c : Cause) : (s.record c).faults.lockout = s.faults.lockout := rfl

/-- Raising a count keeps the causes of the queue. -/
theorem raiseCount_causes (c : Cause) (q : List FaultRecord) :
    (raiseCount c q).map FaultRecord.cause = q.map FaultRecord.cause := by
  simp only [raiseCount, List.map_map]
  refine List.map_congr_left fun r _ => ?_
  simp only [Function.comp_apply]
  split <;> rfl

/-- After a report a record of the cause is held. -/
theorem record_holds (s : State) (c : Cause) : (s.record c).faults.holds c = true := by
  rcases record_cases s c with ⟨h, he⟩ | ⟨_, he⟩
  · rw [he]
    have hc := raiseCount_causes c s.faults.queue
    simp only [FaultMonitor.holds, List.any_eq_true, decide_eq_true_eq] at h ⊢
    obtain ⟨r, hr, rfl⟩ := h
    have hmem : r.cause ∈ (raiseCount r.cause s.faults.queue).map FaultRecord.cause := by
      rw [hc]; exact List.mem_map_of_mem hr
    obtain ⟨x, hx, hxc⟩ := List.mem_map.1 hmem
    exact ⟨x, hx, hxc⟩
  · rw [he]
    simp [FaultMonitor.holds, appendRecord, State.makeRecord]

/-- An eviction takes away at most one record and keeps the order of the others. -/
theorem evictOne_sublist (q : List FaultRecord) : (evictOne q).Sublist q := by
  unfold evictOne dropOldest
  split_ifs <;> exact List.eraseP_sublist

/-- A report keeps every record but at most one, which is of the class R160 names. -/
theorem evictOne_cases (q : List FaultRecord) :
    (hasClass .n q = true ∧ evictOne q = dropOldest .n q) ∨
    (hasClass .n q = false ∧ hasClass .d q = true ∧ evictOne q = dropOldest .d q) ∨
    (hasClass .n q = false ∧ hasClass .d q = false ∧ evictOne q = dropOldest .p q) := by
  cases hn : hasClass .n q
  · cases hd : hasClass .d q
    · exact Or.inr (Or.inr ⟨rfl, rfl, by simp [evictOne, hn, hd]⟩)
    · exact Or.inr (Or.inl ⟨rfl, rfl, by simp [evictOne, hn, hd]⟩)
  · exact Or.inl ⟨rfl, by simp [evictOne, hn]⟩

/-- A record of class T is never evicted (R160). -/
theorem evictOne_keeps_trip {q : List FaultRecord} {r : FaultRecord} (hr : r ∈ q) (ht : r.cls = .t) :
    r ∈ evictOne q := by
  unfold evictOne dropOldest
  split_ifs <;>
    exact (List.mem_eraseP_of_neg (by simp [ht])).2 hr

/-- What a class T report can do (R159, R161, R162). -/
theorem reportTrip_cases (s : State) (c : Cause) :
    (s.faults.holds c = true ∧ s.reportTrip c = s.record c) ∨
    (s.faults.holds c = false ∧ s.faults.tripPending = true ∧
      s.reportTrip c =
        ((s.record c).withFaults { (s.record c).faults with lockout := true }).goNeutral) ∨
    (s.faults.holds c = false ∧ s.faults.tripPending = false ∧
      s.reportTrip c =
        ((s.record c).withFaults { (s.record c).faults with tripPending := true }).goNeutral) := by
  cases h : s.faults.holds c
  · cases ht : s.faults.tripPending
    · exact Or.inr (Or.inr ⟨rfl, rfl, by simp [State.reportTrip, h, ht]⟩)
    · exact Or.inr (Or.inl ⟨rfl, rfl, by simp [State.reportTrip, h, ht]⟩)
  · exact Or.inl ⟨rfl, by simp [State.reportTrip, h]⟩

end Sys2Proof.Machine
end

