-- ==== Sys2Proof/Laws/Ports.lean ====
section
/-! SUPPORT. What the transmit queue operations can do: one lemma for each (R7 to R11). -/

namespace Sys2Proof.Machine

/-- The next frame is the lowest, the earliest queued among equals, and the others keep their order (R9). -/
theorem takeLowest_some {l : List Queued} {m : Queued} {rest : List Queued} (h : takeLowest l = some (m, rest)) :
    ∃ pre post, l = pre ++ m :: post ∧ rest = pre ++ post ∧
      (∀ q ∈ pre, m.frame.ident.toNat < q.frame.ident.toNat) ∧
      ∀ q ∈ post, m.frame.ident.toNat ≤ q.frame.ident.toNat := by
  induction l generalizing m rest with
  | nil => simp [takeLowest] at h
  | cons q qs ih =>
    rw [takeLowest] at h
    cases hq : takeLowest qs with
    | none =>
      simp only [hq, Option.some.injEq, Prod.mk.injEq] at h
      obtain ⟨rfl, rfl⟩ := h
      cases qs with
      | nil => exact ⟨[], [], by simp⟩
      | cons a as =>
        rw [takeLowest] at hq
        split at hq
        · simp at hq
        · split at hq <;> simp at hq
    | some p =>
      obtain ⟨m', rest'⟩ := p
      obtain ⟨pre, post, hl, hr, hlt, hle⟩ := ih hq
      simp only [hq] at h
      split at h
      · simp only [Option.some.injEq, Prod.mk.injEq] at h
        obtain ⟨rfl, rfl⟩ := h
        refine ⟨[], qs, rfl, rfl, by simp, fun x hx => ?_⟩
        rw [hl] at hx
        rcases List.mem_append.1 hx with hx | hx
        · have := hlt x hx; omega
        · rcases List.mem_cons.1 hx with rfl | hx
          · assumption
          · have := hle x hx; omega
      · simp only [Option.some.injEq, Prod.mk.injEq] at h
        obtain ⟨rfl, rfl⟩ := h
        refine ⟨q :: pre, post, by simp [hl], by simp [hr], fun x hx => ?_, hle⟩
        rcases List.mem_cons.1 hx with rfl | hx
        · omega
        · exact hlt x hx

theorem takeLowest_none {l : List Queued} : takeLowest l = none ↔ l = [] := by
  cases l with
  | nil => simp [takeLowest]
  | cons q qs =>
    rw [takeLowest]
    split
    · simp
    · split <;> simp

/-- What `offerNext` can do. -/
theorem offerNext_cases (p : Port) :
    (p.state = .online ∧ p.offer = none ∧ ∃ q rest, takeLowest p.waiting = some (q, rest) ∧
      p.offerNext = { p with offer := some q, waiting := rest }) ∨
    ((p.state = .offline ∨ p.offer ≠ none ∨ p.waiting = []) ∧ p.offerNext = p) := by
  unfold Port.offerNext
  split
  · rename_i h₁ h₂ h₃
    exact Or.inl ⟨h₁, h₂, _, _, h₃, rfl⟩
  · rename_i h
    refine Or.inr ⟨?_, rfl⟩
    cases hs : p.state with
    | offline => exact Or.inl rfl
    | online =>
      cases ho : p.offer with
      | some q => exact Or.inr (Or.inl (by simp))
      | none =>
        cases hw : takeLowest p.waiting with
        | none => exact Or.inr (Or.inr (takeLowest_none.1 hw))
        | some x => exact absurd hw (by simpa using h x.1 x.2 hs ho)

@[simp] theorem offerNext_state (p : Port) : p.offerNext.state = p.state := by
  rcases offerNext_cases p with ⟨_, _, _, _, _, h⟩ | ⟨_, h⟩ <;> rw [h]

@[simp] theorem offerNext_drops (p : Port) : p.offerNext.drops = p.drops := by
  rcases offerNext_cases p with ⟨_, _, _, _, _, h⟩ | ⟨_, h⟩ <;> rw [h]

/-- With none on offer an ONLINE port offers the lowest identifier that waits (R9). -/
theorem offerNext_lowest {p : Port} (hs : p.state = .online) (ho : p.offer = none) (hw : p.waiting ≠ []) :
    lowestOffered p.waiting p.offerNext := by
  rcases offerNext_cases p with ⟨_, _, q, rest, hq, h⟩ | ⟨hc, _⟩
  · rw [h]
    obtain ⟨pre, post, hl, hr, h₁, h₂⟩ := takeLowest_some hq
    exact ⟨pre, q, post, hl, rfl, hr, h₁, h₂⟩
  · rcases hc with hc | hc | hc
    · rw [hs] at hc
      cases hc
    · exact absurd ho hc
    · exact absurd hc hw

/-- Choosing a frame to offer keeps the frames held. -/
theorem offerNext_held (p : Port) : p.offerNext.held.Perm p.held := by
  rcases offerNext_cases p with ⟨_, ho, q, rest, hq, h⟩ | ⟨_, h⟩
  · rw [h]
    obtain ⟨pre, post, hl, hr, _, _⟩ := takeLowest_some hq
    simp only [Port.held, ho, hl, hr, Option.toList_some, Option.toList_none, List.nil_append, List.cons_append]
    exact List.perm_middle.symm
  · rw [h]

/-- An ONLINE port offers a frame whenever it holds one. -/
theorem offerNext_offer_none {p : Port} (hs : p.state = .online) (h : p.offerNext.offer = none) :
    p.offerNext.waiting = [] := by
  rcases offerNext_cases p with ⟨_, _, q, rest, _, he⟩ | ⟨hc, he⟩
  · rw [he] at h; simp at h
  · rw [he] at h ⊢
    rcases hc with hc | hc | hc
    · simp [hs] at hc
    · exact absurd h hc
    · exact hc

/-- What queueing an own frame can do (R7, R11). -/
theorem queueOwn_cases (p : Port) (q : Queued) :
    (p.state = .offline ∧ p.queueOwn q = p) ∨
    (p.state = .online ∧ (p.queueOwn q).state = .online ∧ (p.queueOwn q).drops = p.drops ∧
      (p.queueOwn q).held.Perm (p.held.filter (fun x => decide (x.kind ≠ q.kind)) ++ [q]) ∧
      ((p.queueOwn q).offer = none → (p.queueOwn q).waiting = [])) := by
  cases hs : p.state with
  | offline => exact Or.inl ⟨rfl, by simp [Port.queueOwn, hs]⟩
  | online =>
    refine Or.inr ⟨rfl, ?_⟩
    simp only [Port.queueOwn, hs]
    refine ⟨by simp [Port.withoutKind, hs], by simp [Port.withoutKind], ?_, ?_⟩
    · refine (offerNext_held _).trans ?_
      cases ho : p.offer with
      | none => simp [Port.held, Port.withoutKind, ho]
      | some x =>
        by_cases hx : x.kind = q.kind
        · simp [Port.held, Port.withoutKind, ho, hx, Option.filter]
        · simp [Port.held, Port.withoutKind, ho, hx, Option.filter]
    · exact offerNext_offer_none (by simp [Port.withoutKind, hs])

/-- What forwarding a frame to a port can do (R8, R11). -/
theorem queueForwarded_cases (p : Port) (n : Nat) (f : Frame) :
    (p.state = .online ∧ p.forwardedHeld < n ∧ (p.queueForwarded n f).state = .online ∧
      (p.queueForwarded n f).drops = p.drops ∧
      (p.queueForwarded n f).held.Perm (p.held ++ [{ kind := .forwarded, frame := f }]) ∧
      ((p.queueForwarded n f).offer = none → (p.queueForwarded n f).waiting = [])) ∨
    ((p.state = .offline ∨ n ≤ p.forwardedHeld) ∧
      p.queueForwarded n f = { p with drops := addDrops p.drops 1 }) := by
  cases hs : p.state with
  | offline => exact Or.inr ⟨Or.inl rfl, by simp [Port.queueForwarded, hs]⟩
  | online =>
    by_cases hn : p.forwardedHeld < n
    · refine Or.inl ⟨rfl, hn, ?_⟩
      simp only [Port.queueForwarded, hs, hn, if_true]
      refine ⟨by simp, by simp, ?_, ?_⟩
      · exact (offerNext_held _).trans (by simp [Port.held])
      · exact offerNext_offer_none (by simp)
    · refine Or.inr ⟨Or.inr (by omega), ?_⟩
      simp [Port.queueForwarded, hs, hn]

/-- What a transmit completion can do (R9). -/
theorem complete_cases (p : Port) :
    (p.offer = none ∧ p.complete = p) ∨
    (∃ q, p.offer = some q ∧ p.complete.state = p.state ∧ p.complete.drops = p.drops ∧
      p.complete.held.Perm p.waiting ∧
      (p.state = .online → p.complete.offer = none → p.complete.waiting = [])) := by
  cases ho : p.offer with
  | none => exact Or.inl ⟨rfl, by simp [Port.complete, ho]⟩
  | some q =>
    refine Or.inr ⟨q, rfl, ?_⟩
    simp only [Port.complete, ho]
    refine ⟨by simp, by simp, ?_, fun hs => offerNext_offer_none (by simpa using hs)⟩
    exact (offerNext_held _).trans (by simp [Port.held])

/-- A transmit failure leaves an ONLINE port OFFLINE and empty, its forwarded frames counted (R10). -/
theorem fail_online {p : Port} (h : p.state = .online) :
    p.fail = { state := .offline, offer := none, waiting := [], drops := addDrops p.drops p.forwardedHeld } := by
  simp [Port.fail, h]

theorem fail_offline {p : Port} (h : p.state = .offline) : p.fail = p := by simp [Port.fail, h]

theorem recover_offline {p : Port} (h : p.state = .offline) :
    p.recover = { p with state := .online, offer := none, waiting := [] } := by
  simp [Port.recover, h]

theorem recover_online {p : Port} (h : p.state = .online) : p.recover = p := by simp [Port.recover, h]

end Sys2Proof.Machine
end

