-- ==== Sys2Proof/Laws/Requests.lean ====
section
/-! SUPPORT. How a request is taken: its row, check 2 of R147, and the reply (R146, R147). -/

namespace Sys2Proof.Machine

/-- The row of a request runs the request. -/
theorem exec_row (m : Manager) (tag : Byte) (r : Request) (s : State) :
    exec (r.row m tag) s = .next (s.takeRequest m tag r) := by
  cases r <;> try rfl
  rename_i space item value
  simp only [Request.row]
  split_ifs with h0 h1 h2 h3 h4 h5 <;> subst_vars <;> rfl

theorem governor_lockout_iff (s : State) : s.governor = .lockout ↔ s.faults.lockout = true := by
  unfold State.governor
  cases s.faults.lockout <;> simp
  split_ifs <;> simp

/-- Out of LOCKOUT a request reaches the remaining checks (R147). -/
theorem guarded_unlocked {s : State} (h : notLockedOut s) (m : Manager) (r : Request) :
    s.guarded m r = s.serve m r := by
  have hg : s.governor ≠ .lockout := fun he => by
    have := (governor_lockout_iff s).1 he
    rw [notLockedOut] at h
    simp [h] at this
  simp [State.guarded, hg]

/-- In LOCKOUT every request but the three reads is refused (R147). -/
theorem guarded_locked {s : State} (h : s.faults.lockout = true) (m : Manager) {r : Request}
    (hr : isReadRequest r = false) : s.guarded m r = s.refuse .lockedOut := by
  simp [State.guarded, (governor_lockout_iff s).2 h, hr]

/-- The three reads are answered in every governor state (R147). -/
theorem guarded_read (s : State) (m : Manager) {r : Request} (hr : isReadRequest r = true) :
    s.guarded m r = s.serve m r := by
  simp [State.guarded, hr]

/-- The reply of a request that left the Cab Port and the node number alone is queued as R146 and Table 11-3 say. -/
theorem sendReply_repliedWith {s u : State} (hc : u.cab = s.cab) (hn : u.node = s.node) (m : Manager) (code : Nat)
    (tag : Byte) (r : Reply) : repliedWith s (u.sendReply m code tag r) m code tag r.status r.data := by
  simp [repliedWith, State.sendReply, State.queueCab, replyData, hc, hn]

theorem sendReply_frame (s : State) (m : Manager) (code : Nat) (tag : Byte) (r : Reply) :
    unchangedExcept [.cab] s (s.sendReply m code tag r) :=
  queueCab_frame s _ _

/-- A refused request changes nothing but the Cab Port (R147). -/
theorem takeRequest_refused {s : State} {m : Manager} {r : Request} {st : Status}
    (h : s.guarded m r = s.refuse st) (tag : Byte) :
    repliedWith s (s.takeRequest m tag r) m r.code tag st [] ∧ unchangedExcept [.cab] s (s.takeRequest m tag r) := by
  simp only [State.takeRequest, h, State.refuse]
  exact ⟨sendReply_repliedWith rfl rfl m _ tag _, sendReply_frame s m _ tag _⟩

end Sys2Proof.Machine
end

