-- ==== Sys2Proof/WellFormed.lean ====
section
/-! DEFINITION. The commands that can happen: what the types of `Instr` do not already say. -/

namespace Sys2Proof

/-- A frame carries 0 to 8 data bytes (00_scope.md, Frames; 01, table of events). -/
def WellFormed.frameData (data : List Byte) : Bool := decide (data.length ≤ 8)

/-- The row WRITE is a write to a space with no row of its own: the read-only STATE space 6, or a code that is no
space (opcode table; R149). Spaces 0..5 have their own rows. -/
def WellFormed.writeSpace (space : Byte) : Bool := decide (6 ≤ space.toNat)

/-- A command as the outside can send it. Commands that are not well-formed are taken by the same rules, without a
stop (log entry 13). -/
def Instr.wellFormed : Instr → Bool
  | .frameArrival _ _ data => WellFormed.frameData data
  | .driveCommand data => WellFormed.frameData data
  | .write _ _ space _ _ => WellFormed.writeSpace space
  | .fullReset _ _ | .transmitCompletion _ | .transmitFailure _ | .busRecovered _ => true
  | .commandAbsenceExpiry | .absenceTimerExpiry _ | .noProgressExpiry | .settleTimerExpiry => true
  | .statusTimerExpiry | .stopAsserted | .stopReleased => true
  | .read _ _ _ _ | .writeBank _ _ _ _ _ | .writeMap _ _ _ _ | .writeSignal _ _ _ _ => true
  | .writeRoute _ _ _ _ | .writeLink _ _ _ _ | .openBank _ _ _ | .switch _ _ | .cancel _ _ => true
  | .commitMap _ _ | .ack _ _ _ | .faultRead _ _ _ | .biteRead _ _ _ _ | .channelMode _ _ _ _ => true
  | .linkMode _ _ _ | .restart _ _ => true

end Sys2Proof
end

