-- ==== Sys2Proof/Tests/Slice0.lean ====
section
/-! SUPPORT. Small tests: the smoke test of WellFormed, the manual's worked values, and for every statement with
hypotheses a witness that meets them. -/

namespace Sys2Proof.Tests

open Sys2Proof Sys2Proof.Machine

/-! ## States of the worked sequences -/

/-- The rock bank of 05 (Worked case) and 07 (Worked bite); CROWD monitor as in 06, EN ON. -/
def rockBank : Bank :=
  #v[5, 0, 300, 150, 300, 300, 180, 400, 90, 450, 40, 0, 0, 0, 0, 0, 0, 0, 0, 0, 0, 0, 0, 0, 0, 300, 420, 64, 480, 20, 3,
    60, 20, 30, 25, 40, 40, 60, 1500, 400, 60, 60, 30, 4000, 3600, 3000, 100, 15000, 300, 0, 100, 10, 4, 1, 30, 15, 4, 0,
    100, 10, 4, 3, 2500]

/-- The four-section kelly of 03 (Worked sequence). -/
def rockKelly : MapItems :=
  #v[4, 13200, 150, 60, 20, 150, 1286, 380, 210, 12500, 600, 420, 40, 3, 3100, 6600, 10100, 0, 12200, 600, 320, 40, 3,
    2900, 6400, 9900, 0, 11800, 600, 250, 30, 2, 4050, 8050, 0, 0, 0, 0, 0, 0, 0, 0, 0, 0, 0, 0, 0, 0, 0, 0, 0, 0, 0, 0]

/-- A slot that is FRESH at v, in its unit. -/
def freshSlot (rmin rmax v : Int) : Slot := { Slot.reset rmin rmax with raw := v, held := v, state := .fresh }

/-- ROTSPD 95, ROTPA 1800, ROTPB 1750 (T = 6), crowd pressures 0, and a head and tip. -/
def rockSignal (head tip : Int) : SignalStore :=
  { slots := #v[freshSlot (-600) 600 95, freshSlot 0 5000 1800, freshSlot 0 5000 1750, freshSlot 0 5000 0,
      freshSlot 0 5000 0, freshSlot 0 30000 head, freshSlot (-200) 15000 tip]
    torque := 6, crowd := 0 }

/-- A SAMPLE entry of the Drive Port: slot i, SIGNED, from byte 0. -/
def sampleEntry (id : Ident) (i : SlotId) : RouteEntry :=
  { port := .drive, ident := id, cls := .sample
    maps := #v[{ used := true, slot := i, offset := 0, sign := .signed }, Mapping.reset, Mapping.reset, Mapping.reset] }

/-- Entries 0..6 feed slots 0..6 from 0x180..0x186; entry 7 passes 0x200 and entry 8 blocks 0x201. -/
def rockRoutes : Vector RouteEntry 32 :=
  (((((((((Vector.replicate 32 RouteEntry.reset).set 0 (sampleEntry 0x180 0)).set 1 (sampleEntry 0x181 1)).set 2
    (sampleEntry 0x182 2)).set 3 (sampleEntry 0x183 3)).set 4 (sampleEntry 0x184 4)).set 5 (sampleEntry 0x185 5)).set 6
    (sampleEntry 0x186 6)).set 7 { RouteEntry.reset with port := .drive, ident := 0x200, cls := .pass }).set 8
    { RouteEntry.reset with port := .drive, ident := 0x201, cls := .block }

/-- READY with the kelly nested and tracked, no bite open (04, step 0 of the first worked sequence). -/
def nested : State :=
  { State.reset with
    routes := rockRoutes
    signal := rockSignal 500 13700
    kelly := { items := rockKelly, committed := true }
    tracker := { Tracker.reset with mode := .tracking }
    banks := { bankA := Vector.replicate 63 0, bankB := rockBank, active := .b, activeValid := true
               pendingSwitch := false } }

/-- The junctions of step 7: 3 locked at 2900, 4 at 4050. -/
def lockedJunctions : Vector Junction 5 :=
  #v[Junction.reset, { ext := 2900, state := .locked, lock := some 0 }, { ext := 4050, state := .locked, lock := some 0 },
    Junction.reset, Junction.reset]

/-- READY after step 7: Xm 6940, Xt 6950, crowd-ready, no bite open. -/
def locked : State :=
  { nested with
    signal := rockSignal 500 20640
    tracker := { mode := .tracking, cause := none, junctions := lockedJunctions, xt := 6950, xm := 6940 } }

/-- The context of a bite started at the tip of `locked`. -/
def rockContext : BiteContext :=
  { number := 37, d0 := 20640, hw := 20640, bl := 2500, rb := 2500, regrips := 0, jams := 0, peakT := 6, peakPush := 0
    startTime := 0 }

/-- A bite in CUT on the kelly of `locked`. -/
def cut : State :=
  { locked with
    bite := { state := .cut, jamCause := none, ctx := some rockContext, progressTimer := some 15000, refDepth := 20640
              settleTimer := none, counter := 37, log := [] } }

/-- The bite of `cut` in another state, timers stopped. -/
def biteIn (b : BiteState) : State :=
  { cut with bite := { cut.bite with state := b, progressTimer := none, jamCause := if b = .jammed then some .biteJam else none
                                     settleTimer := if b = .settle then some 4000 else none } }

/-- The bite of `cut` with another remaining bite. -/
def cutWith (hw : Int) : State :=
  { cut with bite := { cut.bite with ctx := some { rockContext with hw := hw, rb := 2500 - (hw - 20640) } } }

/-- `cut` with a switch to bank A, loaded with the same items, pending for manager 0. -/
def pendingCut : State :=
  { cut with banks := { cut.banks with bankA := rockBank, pendingSwitch := true }
             reservation := some { holder := .m0, bank := .a } }

/-- Junction 4 FREE at 4060 (step 2), a bite waiting in ENGAGE. -/
def openKelly : State :=
  { nested with
    signal := rockSignal 500 17760
    tracker :=
      { mode := .tracking, cause := none, xt := 4060, xm := 4060
        junctions := Tracker.reset.junctions.set 2 { ext := 4060, state := .free, lock := none } }
    bite := { cut.bite with state := .engage, progressTimer := none } }

/-- LOCKOUT, with both trip causes held. -/
def lockedOut : State :=
  { nested with
    drive := { Port.reset with state := .offline }
    stopInput := .asserted
    chan := { nested.chan with stopLine := .asserted }
    faults := { queue := [recordOf nested .stopLine, { recordOf nested .driveLinkDown with contextValid := false }]
                tripPending := true, lockout := true } }

/-- A sample frame of one word. -/
def wordFrame (v : Int) : List Byte := wordBytes (wordOf v)

/-- A drive command. -/
def command (seq action : Byte) (n f w : Int) : List Byte :=
  [seq, action] ++ wordBytes (wordOf n) ++ wordBytes (wordOf f) ++ wordBytes (wordOf w)

/-- The state a command leads to. -/
def after (c : Instr) (s : State) : State :=
  match exec c s with
  | .next t => t
  | .fault _ => s
  | .refused _ => s

/-! ## WellFormed -/

theorem test_frame_of_nine_bytes_is_ill_formed :
    (Instr.frameArrival .cab 0x100 (List.replicate 9 0)).wellFormed = false ∧
    (Instr.frameArrival .cab 0x100 (List.replicate 8 0)).wellFormed = true := by decide

theorem test_command_of_nine_bytes_is_ill_formed :
    (Instr.driveCommand (List.replicate 9 0)).wellFormed = false ∧
    (Instr.driveCommand (List.replicate 8 0)).wellFormed = true := by decide

theorem test_write_to_a_space_with_its_row_is_ill_formed :
    (Instr.write .m0 0 5 0 0).wellFormed = false ∧ (Instr.write .m0 0 6 0 0).wellFormed = true := by decide

/-! ## The manual's worked values -/

/-- 01: with node 3 the drive command identifier is 0x0C3 and the request identifiers 0x5E3 and 0x5F3. -/
theorem test_identifiers_of_node_3 :
    driveCommandIdent 3 = 0x0C3 ∧ requestIdent 3 .m0 = 0x5E3 ∧ requestIdent 3 .m1 = 0x5F3 := by decide

/-- 02: ROTPA 3120 against ROTPB 1750 gives T 176. -/
theorem test_torque_of_a_sample :
    (after (.frameArrival .drive 0x181 (wordFrame 3120)) nested).signal.torque = 176 := by decide

/-- 02: 31050 mm on HEADPOS is LOST by RANGE and keeps the held value. -/
theorem test_sample_out_of_range_is_lost :
    ((after (.frameArrival .drive 0x185 (wordFrame 31050)) nested).signal.slot 5).state = .lost ∧
    (after (.frameArrival .drive 0x185 (wordFrame 31050)) nested).effective 5 = 500 ∧
    (after (.frameArrival .drive 0x185 (wordFrame 31050)) nested).tracker.cause = some .sensor := by decide

/-- 03, step 1: a commit of the reset map names SECTIONS at item S. -/
theorem test_commit_of_the_reset_map :
    (after (.commitMap .m0 9) State.reset).cab.offer.map (fun q => q.frame.data) =
      some [0xA5, 9, 1, 0, 0, 0, 0, 0] := by decide

/-- 03, step 7: the corrected map commits. -/
theorem test_commit_of_the_rock_map :
    (after (.commitMap .m0 9) { nested with tracker := Tracker.reset, kelly := { nested.kelly with committed := false } }
      ).tracker.mode = .seeking := by decide

/-- 04, step 1: the innermost junction takes the whole 2420 mm; FK falls to 30. -/
theorem test_extension_opens_the_innermost :
    (after (.frameArrival .drive 0x186 (wordFrame 1612)) nested).tracker.junctions[2] =
      { ext := 2420, state := .free, lock := none } ∧
    (after (.frameArrival .drive 0x186 (wordFrame 1612)) nested).pushLimit = 30 := by decide

/-- 04, step 3: at T 176 junction 4 locks at 4050 from 4060, and Xt follows. -/
theorem test_torque_locks_a_junction :
    (after (.frameArrival .drive 0x181 (wordFrame 3120)) openKelly).tracker.junctions[2] =
      { ext := 4050, state := .locked, lock := some 0 } ∧
    (after (.frameArrival .drive 0x181 (wordFrame 3120)) openKelly).tracker.xt = 4050 := by decide

/-- 05, command 41: NSET 110, FSET 128, WSET 0 with ENV, KELLY, DERATE and HOIST. -/
theorem test_worked_command :
    (after (.driveCommand (command 41 0 150 200 (-50)))
      { cut with cond := { cut.cond with prev := ⟨130, 140, 0⟩ }, signal := { cut.signal with torque := 378 } }
      ).drive.offer.map (fun q => q.frame.data) = some [110, 0, 128, 0, 0, 0, 0x4D, 41] := by decide

/-- 05, command 42: in SETTLE the cap and the closed gate cut the setpoints: 60, 0, −40 with SPDCAP, GATE and RAMP. -/
theorem test_worked_command_in_settle :
    (after (.driveCommand (command 42 0 150 200 (-50)))
      { biteIn .settle with cond := { cut.cond with prev := ⟨110, 128, 0⟩ }
                            signal := { cut.signal with torque := 176 } }
      ).cond.prev = ⟨60, 0, -40⟩ := by decide

/-- 06: HEADPOS 3608 after a reference of 3600 with FDELTA 15 completes a count of 4: latched, reported, sent anyway. -/
theorem test_following_latch :
    let t := after (.driveCommand (command 4 0 0 60 0))
      { cut with cond := { cut.cond with prev := ⟨0, 60, 0⟩ }, signal := rockSignal 3608 20640
                 chan := { cut.chan with follow := cut.chan.follow.set .crowd ⟨false, 3, some 3600⟩ } }
    t.chan.follow.get .crowd = ⟨true, 0, none⟩ ∧ t.faults.holds (.notFollowing .crowd) = true ∧
      t.cond.prev.crowd = 60 := by decide

/-- 06: CRDP 760 against 120 gives Fm 263 above FK 250; the third such event latches. -/
theorem test_overload_latch :
    let s := { locked with signal := { locked.signal with
                             slots := locked.signal.slots.set 4 (freshSlot 0 5000 120) }
                           chan := { locked.chan with overloadCount := 2 } }
    let t := after (.frameArrival .drive 0x183 (wordFrame 760)) s
    t.signal.crowd = 263 ∧ t.chan.overloadLatch = true ∧ t.chan.overloadCount = 0 := by decide

/-- 07: START on a crowd-ready kelly goes straight on to CUT with the timer armed from HW. -/
theorem test_start_passes_to_cut :
    let t := after (.driveCommand (command 51 1 0 0 0)) locked
    t.bite.state = .cut ∧ t.bite.progressTimer = some 15000 ∧ t.bite.counter = 1 := by decide

/-- 07: TIPDEPTH that brings HW − D0 to BL ends the cut in SETTLE with 4000 ms. -/
theorem test_cut_complete :
    let s := { cutWith 22940 with
      signal := rockSignal 3000 22940 }
    let t := after (.frameArrival .drive 0x186 (wordFrame 2314)) s
    t.bite.state = .settle ∧ t.bite.settleTimer = some 4000 ∧ t.bite.ctx.map BiteContext.rb = some 0 := by decide

/-- 07: the settle timer ends the bite DONE with its record in cm. -/
theorem test_settle_over :
    let t := after .settleTimerExpiry { biteIn .settle with clock := 66000 }
    t.bite.state = .idle ∧ t.bite.log.map (fun r => (r.number, r.d0, r.duration, r.outcome)) =
      [(37, 2064, 66, .done)] := by decide

/-- 07: the no-progress timer jams the bite and reports BITE_JAM. -/
theorem test_no_progress_jams :
    let t := after .noProgressExpiry cut
    t.bite.state = .jammed ∧ t.bite.jamCause = some .biteJam ∧ t.faults.holds .biteJam = true := by decide

/-- 09, step 5: a stored write by the other manager removes the reservation. -/
theorem test_foreign_write_cancels :
    (after (.writeBank .m1 0 .a 13 7) { nested with reservation := some ⟨.m0, .a⟩ }).reservation = none ∧
    (after (.writeBank .m0 0 .a 13 7) { nested with reservation := some ⟨.m0, .a⟩ }).reservation =
      some ⟨.m0, .a⟩ := by decide

/-- 08: a switch waits in CUT and takes effect at the exit. -/
theorem test_pending_switch_takes_effect :
    let t := after .noProgressExpiry pendingCut
    t.banks.active = .a ∧ t.banks.pendingSwitch = false ∧ t.reservation = none := by decide

/-- 10: a stop and then a drive link failure lock the part out. -/
theorem test_two_trips_lock_out :
    (after (.transmitFailure .drive) (after .stopAsserted nested)).governor = .lockout := by decide

/-- R95, R7, R94: a trip after a command. A frame still behind another is replaced by the zero frame; one that was sent is
followed by it; one on offer, still unsent, is withdrawn (log entry 20). -/
theorem test_trip_after_command :
    let sent := after (.driveCommand (command 7 0 100 0 0)) nested
    let behind := { nested with
      drive := { Port.reset with offer := some { kind := .forwarded, frame := { ident := 0x050, data := [] } } } }
    (after .stopAsserted (after (.driveCommand (command 7 0 100 0 0)) behind)).drive.waiting = [zeroFrameOf 0 7] ∧
    (after (.transmitCompletion .drive) sent).drive.held = [] ∧
    (after .stopAsserted (after (.transmitCompletion .drive) sent)).drive.held = [zeroFrameOf 0 7] ∧
    sent.drive.held ≠ [zeroFrameOf 0 7] ∧ (after .stopAsserted sent).drive.held = [zeroFrameOf 0 7] := by decide

/-- 10: the STOP_LINE record of a released line is acknowledged and the governor READY again. -/
theorem test_ack_after_release :
    (after (.ack .m0 1 0) (after .stopReleased (after .stopAsserted nested))).governor = .ready ∧
    (after (.ack .m0 1 0) (after .stopAsserted nested)).governor = .tripped := by decide

/-- R165, Table 11-2: the status frame right after reset, its timer run out. -/
theorem test_status_frame :
    (after .statusTimerExpiry cut).cab.offer.map (fun q => q.frame.data) =
      some [0x09, 0x12, 0, 0, 0xC4, 0x09, 0x10, 0x08] := by decide

/-- Table 11-5: READ of bank item 62. -/
theorem test_read_bank_item :
    (after (.read .m1 8 1 62) nested).cab.offer.map (fun q => (q.frame.ident, q.frame.data)) =
      some (0x6F0, [0, 8, 0xC4, 0x09, 0, 0, 0, 0]) := by decide

/-! ## The states meet the invariants -/

theorem nested_tracking : trackingOk nested := by unfold trackingOk junctionOk; decide

theorem locked_tracking : trackingOk locked := by unfold trackingOk junctionOk; decide

theorem cut_tracking : trackingOk cut := locked_tracking

theorem open_tracking : trackingOk openKelly := by unfold trackingOk junctionOk; decide

theorem nested_bite : biteOk nested := by unfold biteOk; decide

theorem locked_bite : biteOk locked := by unfold biteOk; decide

theorem cut_bite : biteOk cut := by unfold biteOk; decide

theorem open_bite : biteOk openKelly := by unfold biteOk; decide

theorem bite_in_bite : biteOk (biteIn .regrip) ∧ biteOk (biteIn .settle) ∧ biteOk (biteIn .jammed) := by
  unfold biteOk; decide

theorem cut_with_bite (hw : Int) : biteOk (cutWith hw) :=
  ⟨cut_bite.1, by simp [cutWith, cut], cut_bite.2.2.1, cut_bite.2.2.2.1, cut_bite.2.2.2.2.1, cut_bite.2.2.2.2.2.1,
    cut_bite.2.2.2.2.2.2.1, cut_bite.2.2.2.2.2.2.2⟩

theorem nested_banks : banksOk nested := by
  refine ⟨by decide, by decide, ?_, by decide⟩
  intro r h
  cases h

theorem pending_banks : banksOk pendingCut := by
  refine ⟨by decide, by decide, ?_, by decide⟩
  intro r h
  cases h
  decide

theorem nested_routes : routesOk nested := by unfold routesOk; decide

theorem nested_signal : signalOk nested := by unfold signalOk slotOk slotConfigOk; decide

theorem nested_ports : portsOk nested := by unfold portsOk portOk frameFits; decide

theorem locked_out_faults : faultsOk lockedOut := by unfold faultsOk recordOk; decide

theorem locked_out_neutral : neutralOk lockedOut := by unfold neutralOk carriesNoMotion; decide

theorem nested_channels : channelsOk nested := by
  unfold channelsOk followOk
  exact ⟨by intro c; cases c <;> decide, by intro c; cases c <;> decide, by decide, by decide, by decide⟩

theorem nested_setpoints : setpointsOk nested := by
  intro c
  exact ⟨by cases c <;> simp [inRequestRange, nested, State.reset, State.fullReset, Conditioner.reset, PerChannel.const,
    PerChannel.get], by intro h hh; cases c <;> cases hh⟩

/-- A sample of slot i on its own frame is carried, in any state with these routes and node 0. -/
theorem carried (s : State) (i : SlotId) (id : Ident) (v : Int) (hn : s.node = 0) (hr : s.routes = rockRoutes)
    (hi : id = 0x180 + BitVec.ofNat 11 i.val) (hv : (wordOf v).toInt = v) :
    carriesSample s .drive id (wordFrame v) i v := by
  subst hi
  have hm : s.matchRoute .drive (0x180 + BitVec.ofNat 11 i.val) =
      some (sampleEntry (0x180 + BitVec.ofNat 11 i.val) i) := by
    unfold State.matchRoute
    rw [hr]
    clear hr hn hv
    revert i
    decide
  have hown : isOwnIdent s.node (0x180 + BitVec.ofNat 11 i.val) = false := by
    rw [hn]
    clear hm hr hn hv
    revert i
    decide
  have hw : wordAt (wordFrame v) 0 = wordOf v := by
    simp only [wordAt, wordFrame, wordBytes, byteAt, joinBytes, lowByte, highByte, List.getD_cons_zero,
      List.getD_cons_succ]
    exact BitVec.extractLsb'_append_extractLsb'_eq_extractLsb' (by omega) |>.trans (by simp)
  refine ⟨hown, _, 0, hm, rfl, ?_, rfl, by simp [sampleEntry, wordFrame, wordBytes], ?_⟩
  · intro q
    fin_cases q <;> simp [sampleEntry, Mapping.reset]
  · simp [Mapping.value, sampleEntry, hw, hv]

/-! ## Witnesses: hypotheses of the statements, met together -/

theorem witness_StepTakesFrontCommand :
    (nested.withPending [.stopReleased]).pending = .stopReleased :: [] := rfl

theorem witness_IdleStepIsOneMillisecond :
    nested.pending = [] ∧ (∀ u, nested.countDown.timerDue u = false) ∧
    (nested.withCommandTimer 1).countDown.timerDue .command = true ∧
    ∀ w, w ≠ .command → (nested.withCommandTimer 1).countDown.timerDue w = false := by
  refine ⟨rfl, ?_, by decide, ?_⟩
  · intro u
    cases u with
    | slot i => revert i; decide
    | _ => decide
  · intro u hu
    cases u with
    | slot i => revert i; decide
    | command => exact absurd rfl hu
    | _ => decide

/-- A READ one byte short, and an unknown code. -/
theorem witness_MalformedRequestIsAnswered :
    (∀ n, ([5, 7, 3, 2, 2, 2, 3, 3, 4, 4, 3, 2] : List Nat)[0]? = some n → ([0, 7, 0, 0] : List Byte).length < n) ∧
    ([5, 7, 3, 2, 2, 2, 3, 3, 4, 4, 3, 2] : List Nat)[((0x0C : Byte).toNat % 16)]? = none := by
  refine ⟨?_, by decide⟩
  intro n h
  injection h with h
  subst h
  decide

/-- One entry passes, one blocks, one identifier has none; three forwarded frames leave room at the Cab Port, four none. -/
theorem witness_ForeignFramesAreForwardedOrBlocked :
    routesOk nested ∧ (∀ id ∈ ([0x200, 0x201, 0x202] : List Ident), isOwnIdent nested.node id = false) ∧
    (∃ k : Fin 32, nested.routes[k].cls = .pass ∧ nested.routes[k].port = .drive ∧ nested.routes[k].ident = 0x200) ∧
    (∃ k : Fin 32, nested.routes[k].cls = .block ∧ nested.routes[k].port = .drive ∧ nested.routes[k].ident = 0x201) ∧
    (∀ k : Fin 32, nested.routes[k].cls = .empty ∨ nested.routes[k].port ≠ .drive ∨ nested.routes[k].ident ≠ 0x202) ∧
    ∀ n : Nat, n = 3 ∨ n = 4 →
      ((List.replicate n ({ kind := .forwarded, frame := { ident := 0x300, data := [] } } : Queued)).filter
        (fun q => decide (q.kind = .forwarded))).length = n := by
  refine ⟨nested_routes, by decide, by decide, by decide, by decide, ?_⟩
  rintro n (rfl | rfl) <;> rfl

/-- A SAMPLE entry with two used mappings, of slots 5 and 6. -/
def twoSlots : RouteEntry :=
  { sampleEntry 0x185 5 with
    maps := (sampleEntry 0x185 5).maps.set 2 { used := true, slot := 6, offset := 2, sign := .unsigned } }

/-- HEADPOS at RMAX and one above it, a rotary speed; an entry with one, two and no used mappings; a frame one byte too
short for a mapping and one that just holds it. -/
theorem witness_SampleUpdatesItsSlot :
    carriesSample nested .drive 0x185 (wordFrame 30000) 5 30000 ∧
    carriesSample nested .drive 0x185 (wordFrame 30001) 5 30001 ∧ carriesSample nested .drive 0x180 (wordFrame 40) 0 40 ∧
    (nested.signal.slot 5).cfg.rngEn = true ∧ (nested.signal.slot 5).state ≠ .lost ∧ nested.faults.queue.length ≤ 13 ∧
    isOwnIdent nested.node 0x185 = false ∧
    (∀ e ∈ [sampleEntry 0x185 5, twoSlots, { twoSlots with maps := Vector.replicate 4 Mapping.reset }],
      ({ nested with routes := nested.routes.set 5 e } : State).matchRoute .drive 0x185 = some e ∧ e.cls = .sample) ∧
    ([1, 2, 3] : List Byte).length ≤ twoSlots.maps[2].offset.val + 1 ∧
    twoSlots.maps[2].offset.val + 1 < ([1, 2, 3, 4] : List Byte).length :=
  ⟨carried _ 5 _ _ rfl rfl (by decide) (by decide), carried _ 5 _ _ rfl rfl (by decide) (by decide),
    carried _ 0 _ _ rfl rfl (by decide) (by decide), by decide, by decide, by decide, by decide, by decide, by decide,
    by decide⟩

/-- An ONLINE port with nothing on offer and an OFFLINE one; a frame on offer that is of another kind than the new one,
and of its kind, with a forwarded frame waiting. -/
theorem witness_OwnFrameTakesItsKindsPlace :
    portOk 0 .cab Port.reset ∧ Port.reset.offer = none ∧ portOk 0 .cab { Port.reset with state := .offline } ∧
    portOk 0 .cab
      { Port.reset with offer := some (ownFrame 0 .status [0, 0, 0, 0, 0, 0, 0, 0])
                        waiting := [{ kind := .forwarded, frame := { ident := 0x181, data := [] } }] } ∧
    (ownFrame 0 .status [0, 0, 0, 0, 0, 0, 0, 0]).kind ≠ .echo ∧
    (ownFrame 0 .status [0, 0, 0, 0, 0, 0, 0, 0]).kind = .status := by
  unfold portOk frameFits
  decide

/-- Nothing on offer; one on offer with none waiting, and with one waiting. -/
theorem witness_CompletionOffersLowestIdentifier :
    (nested.port .cab).state = .online ∧ (nested.port .cab).offer = none ∧
    ∀ l : List Queued, l = [] ∨ l = [ownFrame 0 .echo []] →
      ((nested.withCab { Port.reset with offer := some (ownFrame 0 .status []), waiting := l }).port .cab).offer ≠ none := by
  refine ⟨rfl, rfl, ?_⟩
  rintro l (rfl | rfl) <;> decide

/-- Ports ONLINE and OFFLINE, with no trip, and with a trip of the STOP line pending. -/
theorem witness_LinkFailureAndRecovery :
    (nested.port .cab).state = .online ∧ (nested.port .drive).state = .online ∧ (lockedOut.port .drive).state = .offline ∧
    nested.faults.holds .driveLinkDown = false ∧ nested.faults.tripPending = false ∧
    ((after .stopAsserted nested).port .drive).state = .online ∧
    (after .stopAsserted nested).faults.holds .driveLinkDown = false ∧
    (after .stopAsserted nested).faults.tripPending = true := by decide

theorem witness_DriveCommandIsTakenOrDropped :
    ([0, 0, 0, 0, 0, 0, 0] : List Byte).length < 8 ∧ 8 ≤ (command 1 0 0 0 0).length := by decide

/-- A START with a bite open, an ABORT with none, a RESUME outside JAMMED, a code of 4, and held and absent actions. -/
theorem witness_ActionsHeldUnknownOrRefused :
    (∀ a ∈ ([0, 1, 2, 3, 4] : List Byte), 8 ≤ (command 1 a 0 0 0).length ∧ (command 1 a 0 0 0).getD 1 0 = a) ∧
    cut.cond.action ≠ .start ∧ cut.bite.state ≠ .idle ∧
    nested.cond.action ≠ .abort ∧ nested.bite.state = .idle ∧
    cut.cond.action ≠ .resume ∧ cut.bite.state ≠ .jammed ∧
    ({ cut.cond with action := .start } : Conditioner).action = .start := by decide

/-- A crowd-ready kelly and one that is not. -/
theorem witness_StartOpensABite :
    8 ≤ (command 1 1 0 0 0).length ∧ ((command 1 1 0 0 0).getD 1 0).toNat = 1 ∧
    (locked.cond.action ≠ .start ∧ biteOk locked ∧ locked.bite.state = .idle ∧ locked.governor = .ready ∧
      locked.tracker.mode = .tracking ∧ locked.crowdReady = true) ∧
    let s := { openKelly with bite := BiteEngine.reset }
    s.cond.action ≠ .start ∧ biteOk s ∧ s.bite.state = .idle ∧ s.governor = .ready ∧ s.tracker.mode = .tracking ∧
      s.crowdReady = false := by
  unfold biteOk
  decide

/-- CUT with RB just above FINISH_BAND and just at it, and the other open states. -/
theorem witness_AbortEndsTheBite :
    8 ≤ (command 1 2 0 0 0).length ∧ ((command 1 2 0 0 0).getD 1 0).toNat = 2 ∧ cut.cond.action ≠ .abort ∧
    (biteOk (cutWith 22839) ∧ (cutWith 22839).bite.ctx = some { rockContext with hw := 22839, rb := 301 } ∧
      itemAt cut.activeBank 48 < 301) ∧
    (biteOk (cutWith 22840) ∧ (cutWith 22840).bite.ctx = some { rockContext with hw := 22840, rb := 300 } ∧
      300 ≤ itemAt cut.activeBank 48) ∧
    biteOk (biteIn .regrip) ∧ biteOk (biteIn .settle) ∧ biteOk (biteIn .jammed) ∧ biteOk openKelly :=
  ⟨by decide, by decide, by decide, ⟨cut_with_bite _, by decide, by decide⟩, ⟨cut_with_bite _, by decide, by decide⟩,
    bite_in_bite.1, bite_in_bite.2.1, bite_in_bite.2.2, open_bite⟩

/-- JAMMED on a crowd-ready kelly and on one that is not. -/
theorem witness_ResumeLeavesJammed :
    8 ≤ (command 1 3 0 0 0).length ∧ ((command 1 3 0 0 0).getD 1 0).toNat = 3 ∧
    (let s := biteIn .jammed
     s.cond.action ≠ .resume ∧ s.bite.state = .jammed ∧ s.tracker.mode = .tracking ∧ s.bite.ctx = some rockContext ∧
       s.crowdReady = true) ∧
    let s := { openKelly with bite := (biteIn .jammed).bite }
    s.cond.action ≠ .resume ∧ s.bite.state = .jammed ∧ s.tracker.mode = .tracking ∧ s.bite.ctx = some rockContext ∧
      s.crowdReady = false := by decide

/-- The last point, one below it, and both ends of a segment. -/
theorem witness_EnvelopeLimitOfValidBank :
    bankFault rockBank = none ∧ (0 : Int) ≤ 449 ∧
    itemAt rockBank (1 + 2 * 4) ≤ 450 ∧ 449 < itemAt rockBank (1 + 2 * 4) ∧
    itemAt rockBank (1 + 2 * 1) ≤ 150 ∧ 299 < itemAt rockBank (1 + 2 * (1 + 1)) := by decide

/-- Both ends of the derate. -/
theorem witness_DerateOfValidBank :
    bankFault rockBank = none ∧ (0 : Int) ≤ 250 ∧ 300 ≤ itemAt rockBank 25 ∧ itemAt rockBank 25 < 301 ∧
    419 < itemAt rockBank 26 ∧ itemAt rockBank 26 ≤ 420 ∧
    (nested.activeBank = rockBank ∧ trackingOk nested ∧ nested.tracker.mode = .tracking) ∧
    (let seeking := { nested with tracker := { nested.tracker with mode := .seeking } }
     seeking.activeBank = rockBank ∧ trackingOk seeking ∧ seeking.tracker.mode ≠ .tracking) :=
  ⟨by decide, by decide, by decide, by decide, by decide, by decide, ⟨by decide, nested_tracking, by decide⟩,
    ⟨by decide, by unfold trackingOk junctionOk; decide, by decide⟩⟩

/-- A reversal, one step short of and one step past 0; growing and falling, within a step and beyond it. -/
theorem witness_RampStepsTowardTarget :
    ((0 : Int) < 20 ∧ (0 : Int) < 30) ∧ ((0 : Int) < 31 ∧ (-100 : Int) < 0 ∧ (30 : Int) < |31|) ∧
    ((0 : Int) < 30 ∧ |(30 : Int)| ≤ 30) ∧ (|(0 : Int)| < |(20 : Int)| ∧ |(20 : Int) - 0| ≤ 20) ∧
    (|(0 : Int)| < |(21 : Int)| ∧ 20 < |(21 : Int) - 0|) ∧ (|(0 : Int)| ≤ |(30 : Int)| ∧ |(0 : Int) - 30| ≤ 30) ∧
    30 < |(0 : Int) - 31| := by decide

/-- READY with the gate open and closed, in SETTLE and JAMMED, and with the stall latch SET. -/
theorem witness_ConditionedSetpointsWithinLimits :
    8 ≤ (command 1 0 100 100 0).length ∧ banksOk nested ∧ trackingOk nested ∧ nested.banks.activeValid = true ∧
    (∀ b ∈ ([.settle, .jammed] : List BiteState),
      ((biteIn b).handedOff (command 1 0 100 100 0)).bite.state = b ∧ gateClosed b = true) ∧
    (after (.driveCommand (command 1 0 100 100 0))
      { nested with cond := { nested.cond with stallLatch := true }, signal := { nested.signal with torque := 470 } }
      ).cond.stallLatch = true :=
  ⟨by decide, nested_banks, nested_tracking, by decide, by decide, by decide⟩

/-- Torque just below and at the release level, at the stall level with the count one short of STALL_COUNT and two short. -/
theorem witness_StallLatchSetsAndReleases :
    8 ≤ (command 1 0 0 0 0).length ∧
    (let b := (nested.handedOff (command 1 0 0 0 0)).activeBank
     (nested.handedOff (command 1 0 0 0 0)).banks.activeValid = true ∧
       419 < itemAt b 28 - itemAt b 31 ∧ itemAt b 28 - itemAt b 31 ≤ 420 ∧
       itemAt b 28 ≤ 480 ∧ magnitude 20 ≤ itemAt b 29 ∧ itemAt b 30 ≤ 2 + 1 ∧ 1 + 1 < itemAt b 30 ∧
       (∀ c ∈ ([.rotary, .winch] : List Channel), followEnabled b c = false)) ∧
    (State.reset.handedOff (command 1 0 0 0 0)).banks.activeValid = false := by decide

/-- A NEUTRAL channel, a governor that is not READY, and a READY one without a forced channel; a valid active bank and none;
the gate open and closed, and the stall latch SET under an open gate; both link modes. -/
theorem witness_ForcingAndEmission :
    8 ≤ (command 1 0 100 0 0).length ∧
    (let u := nested.handedOff (command 1 0 100 0 0)
     u.banks.activeValid = true ∧ u.governor = .ready ∧ u.bite.state = .idle ∧
       ∀ c ∈ ([.rotary, .crowd, .winch] : List Channel),
         nested.chan.mode.get c = .normal ∧ (nested.chan.follow.get c).latch = false) ∧
    nested.chan.stopLine = .released ∧ nested.chan.overloadLatch = false ∧
    (State.reset.handedOff (command 1 0 100 0 0)).banks.activeValid = false ∧
    (let u := (biteIn .settle).handedOff (command 1 0 100 0 0)
     u.banks.activeValid = true ∧ u.bite.state = .settle) ∧
    (after (.driveCommand (command 1 0 100 100 0))
      { nested with cond := { nested.cond with stallLatch := true }, signal := { nested.signal with torque := 470 } }
      ).cond.stallLatch = true ∧
    ({ nested.chan with mode := nested.chan.mode.set .crowd .neutral } : ChannelControl).mode.get .crowd = .neutral ∧
    (lockedOut.handedOff (command 1 0 100 0 0)).governor ≠ .ready ∧
    nested.chan.linkMode = .normal ∧ ({ nested.chan with linkMode := .loopback } : ChannelControl).linkMode = .loopback := by
  decide

theorem witness_HeldChannelIgnoresItsRequest :
    let s := { nested with cond := { nested.cond with hold := nested.cond.hold.set .crowd (some 90) }
                           chan := { nested.chan with mode := nested.chan.mode.set .crowd .hold } }
    8 ≤ (command 1 0 10 200 0).length ∧ (command 1 0 10 200 0).length = 8 ∧ (command 1 0 10 55 0).length = 8 ∧ s.chan.mode.get .crowd = .hold ∧
      s.cond.hold.get .crowd = some 90 ∧ command 1 0 10 200 0 ≠ command 1 0 10 55 0 ∧
      ∀ i ∈ List.range 8, i ≠ 4 → i ≠ 5 → (command 1 0 10 200 0).getD i 0 = (command 1 0 10 55 0).getD i 0 := by decide

/-- A command under READY queues a frame that carries motion. -/
theorem witness_MotionOnlyWhenReadyAndNormal :
    ∃ (t : State) (q : Queued), step (nested.withPending [.driveCommand (command 1 0 100 0 0)]) = .next t ∧
      q ∈ t.drive.held ∧ q.kind = .driveSetpoint ∧ q ∉ (nested.withPending [.driveCommand (command 1 0 100 0 0)]).drive.held ∧
      q.frame.data.take 6 ≠ [0, 0, 0, 0, 0, 0] :=
  ⟨_, ownFrame 0 .driveSetpoint [20, 0, 0, 0, 0, 0, 0x20, 1], rfl, by decide, by decide, by decide, by decide⟩

/-- A run of three that the next frame completes. -/
theorem witness_CommandFrameIsMonitored :
    let s := { cut with cond := { cut.cond with prev := ⟨0, 60, 0⟩ }, signal := rockSignal 3608 20640
                        chan := { cut.chan with follow := cut.chan.follow.set .crowd ⟨false, 3, some 3600⟩ } }
    8 ≤ (command 4 0 0 60 0).length ∧ (s.chan.follow.get .crowd).latch = false ∧
      ((after (.driveCommand (command 4 0 0 60 0)) s).chan.follow.get .crowd).latch = true ∧
      itemAt s.activeBank (followItem .rotary) ≠ 1 ∧ itemAt s.activeBank (followItem .winch) ≠ 1 := by decide

/-- Fm just at FK 250 and just above it, with the count one short of OVERLOAD_COUNT and two short. -/
theorem witness_OverloadCountsAndLatches :
    carriesSample locked .drive 0x183 (wordFrame 658) 3 658 ∧ carriesSample locked .drive 0x183 (wordFrame 661) 3 661 ∧
    acceptsSample 3 658 (locked.signal.slot 3).cfg ∧ acceptsSample 3 661 (locked.signal.slot 3).cfg ∧
    crowdWith locked 3 658 = locked.pushLimit ∧ locked.pushLimit + 1 = crowdWith locked 3 661 ∧
    locked.tracker.mode = .tracking ∧ locked.banks.activeValid = true ∧ locked.chan.overloadLatch = false ∧
    itemAt locked.activeBank 61 ≤ 2 + 1 ∧ 1 + 1 < itemAt locked.activeBank 61 := by
  refine ⟨carried _ 3 _ _ rfl rfl (by decide) (by decide), carried _ 3 _ _ rfl rfl (by decide) (by decide), ?_, ?_,
    by decide, by decide, by decide, by decide, by decide, by decide, by decide⟩ <;> unfold acceptsSample <;> decide

/-- HEADPOS that gives Xm 150 and 151 at NEST_WIN 150 and −151 below it; in the deadband of 20 and one past it. -/
theorem witness_PositionUpdate :
    (∀ v ∈ ([350, 349, 651] : List Int), acceptsSample 5 v (nested.signal.slot 5).cfg) ∧
    carriesSample nested .drive 0x185 (wordFrame 349) 5 349 ∧
    (∀ j : SlotId, j = 5 ∨ j = 6 → j ≠ 5 → (nested.signal.slot j).state = .fresh) ∧
    trackingOk nested ∧ nested.tracker.mode = .tracking ∧
    extensionWith nested 5 350 = itemAt nested.kelly.items 2 ∧ extensionWith nested 5 349 = 151 ∧
    extensionWith nested 5 651 < -itemAt nested.kelly.items 2 ∧
    trackingOk locked ∧ |extensionWith locked 5 510 - locked.tracker.xt| = itemAt locked.kelly.items 4 ∧
    |extensionWith locked 5 511 - locked.tracker.xt| = itemAt locked.kelly.items 4 + 1 ∧
    (distribute locked.kelly.items (-21) lockedJunctions).1 ≠ 0 ∧
    (distribute locked.kelly.items 21 lockedJunctions).1 = 0 ∧ locked.banks.pendingSwitch = false := by
  refine ⟨?_, carried _ 5 _ _ rfl rfl (by decide) (by decide), by decide, nested_tracking, by decide, by decide, by decide,
    by decide, locked_tracking, by decide, by decide, by decide, by decide, by decide⟩
  unfold acceptsSample
  decide

/-- A refused HEADPOS with a bite in CUT, and an accepted one with TIPDEPTH AWAITING. -/
theorem witness_StalePositionLosesTracking :
    carriesSample cut .drive 0x185 (wordFrame 30001) 5 30001 ∧ ¬ acceptsSample 5 30001 (cut.signal.slot 5).cfg ∧
    cut.tracker.mode = .tracking ∧ cut.bite.state = .cut ∧ cut.banks.pendingSwitch = false ∧
    ∃ j : SlotId, (j = 5 ∨ j = 6) ∧ j ≠ 5 ∧ (State.reset.signal.slot j).state ≠ .fresh := by
  refine ⟨carried _ 5 _ _ rfl rfl (by decide) (by decide), ?_, by decide, by decide, by decide, by decide⟩
  unfold acceptsSample
  decide

/-- The records of step 7 lie in their travels. -/
theorem witness_WalkInnermostFirst :
    ∀ k : Fin 5, junctionInUse rockKelly k = true →
      0 ≤ lockedJunctions[k].ext ∧ lockedJunctions[k].ext ≤ junctionTravel rockKelly k := by decide

/-- T at TLOCK and one below, on an open kelly; T at −TLOCK on a locked one. -/
theorem witness_LockAndUnlock :
    carriesSample openKelly .drive 0x181 (wordFrame 2917) 1 2917 ∧
    acceptsSample 1 2917 (openKelly.signal.slot 1).cfg ∧ trackingOk openKelly ∧ biteOk openKelly ∧
    torqueWith openKelly 1 2917 = 150 ∧ torqueWith openKelly 1 2909 = 149 ∧
    carriesSample locked .drive 0x182 (wordFrame 2967) 2 2967 ∧ acceptsSample 2 2967 (locked.signal.slot 2).cfg ∧
    trackingOk locked ∧ biteOk locked ∧ torqueWith locked 2 2967 = -150 ∧
    junctionInUse rockKelly 2 = true ∧ openKelly.tracker.junctions[(2 : Fin 5)].state = .free ∧
    |openKelly.tracker.junctions[(2 : Fin 5)].ext - lockPoint rockKelly 2 0| ≤ itemAt rockKelly 3 := by
  refine ⟨carried _ 1 _ _ rfl rfl (by decide) (by decide), ?_, open_tracking, open_bite, by decide, by decide,
    carried _ 2 _ _ rfl rfl (by decide) (by decide), ?_, locked_tracking, locked_bite, by decide, by decide, by decide,
    by decide⟩ <;> unfold acceptsSample <;> decide

/-- A sample that raises HW, one that raises it by PROG_MIN, one that completes the bite, and one that opens a junction. -/
theorem witness_DepthCountsInCut :
    carriesSample cut .drive 0x186 (wordFrame 2064) 6 2064 ∧ acceptsSample 6 2064 (cut.signal.slot 6).cfg ∧ biteOk cut ∧
    cut.bite.state = .cut ∧ cut.bite.ctx = some rockContext ∧
    (after (.frameArrival .drive 0x186 (wordFrame 2064)) cut).crowdReady = true ∧
    (after (.frameArrival .drive 0x186 (wordFrame 2074)) { cut with signal := rockSignal 600 20640 }).crowdReady = true ∧
    (after (.frameArrival .drive 0x186 (wordFrame 2314)) { cut with signal := rockSignal 3000 20640 }).crowdReady = true ∧
    (after (.frameArrival .drive 0x186 (wordFrame 2100)) cut).tracker.mode = .tracking ∧
    (after (.frameArrival .drive 0x186 (wordFrame 2100)) cut).crowdReady = false := by
  refine ⟨carried _ 6 _ _ rfl rfl (by decide) (by decide), ?_, cut_bite, by decide, by decide, by decide, by decide,
    by decide, by decide, by decide⟩
  unfold acceptsSample
  decide

/-- HEADPOS at HEAD_LIMIT and one below it in CUT; at HEAD_LIMIT − REGRIP_CLEAR and one above it in REGRIP. -/
theorem witness_HeadTests :
    let s := fun (b : State) (v : Int) => { b with signal := rockSignal 500 (20640 + v - 500) }
    (∀ v ∈ ([3600, 3599] : List Int),
      (after (.frameArrival .drive 0x185 (wordFrame v)) (s cut v)).crowdReady = true) ∧
    (∀ v ∈ ([600, 601] : List Int),
      (after (.frameArrival .drive 0x185 (wordFrame v)) (s (biteIn .regrip) v)).crowdReady = true) ∧
    sampledValue 5 3600 = itemAt cut.activeBank 44 ∧
    sampledValue 5 600 = itemAt cut.activeBank 44 - itemAt cut.activeBank 45 ∧
    carriesSample (s cut 3600) .drive 0x185 (wordFrame 3600) 5 3600 ∧
    acceptsSample 5 3600 ((s cut 3600).signal.slot 5).cfg ∧ biteOk (s cut 3600) ∧ biteOk (s (biteIn .regrip) 600) ∧
    cut.bite.ctx = some rockContext := by
  refine ⟨by decide, by decide, by decide, by decide, carried _ 5 _ _ rfl rfl (by decide) (by decide), ?_, ?_, ?_,
    by decide⟩
  · unfold acceptsSample
    decide
  · exact cut_bite
  · exact bite_in_bite.1

/-- A bite in CUT with and without a pending switch, and none. -/
theorem witness_CommandAbsenceExpires :
    pendingCut.bite.state = .cut ∧ pendingCut.banks.pendingSwitch = true ∧ cut.banks.pendingSwitch = false ∧
    cut.bite.ctx = some rockContext ∧ cut.bite.state ≠ .idle ∧ nested.bite.state = .idle := by decide

/-- A position slot under a TRACKING tracker with room in the queue, a slot without its detector, and one already LOST. -/
theorem witness_AbsenceTimerExpires :
    nested.faults.queue.length ≤ 13 ∧
    (nested.signal.slot 5).cfg.absEn = true ∧ (nested.signal.slot 5).state ≠ .lost ∧ nested.tracker.mode = .tracking ∧
    ({ Slot.reset 0 5000 with state := .lost, lostAbsence := true } : Slot).state = .lost ∧
    ({ (Slot.reset 0 5000).cfg with absEn := false } : SlotConfig).absEn = false ∧
    State.reset.tracker.mode ≠ .tracking ∧ State.reset.bite.state = .idle := by decide

theorem witness_BiteTimersExpire :
    cut.bite.state = .cut ∧ nested.bite.state ≠ .cut ∧ (biteIn .settle).bite.state = .settle ∧
    (biteIn .settle).bite.ctx = some rockContext ∧ nested.bite.state ≠ .settle := by decide

/-- An empty queue and one of 16. -/
theorem witness_StatusFrameCarriesItsFields :
    nested.faults.queue.length ≤ 16 ∧ (List.replicate 16 (recordOf nested .badCmd)).length ≤ 16 := by decide

theorem witness_StopLineTripsTheGovernor :
    nested.faults.holds .stopLine = false ∧ lockedOut.faults.holds .stopLine = true ∧ cut.bite.ctx = some rockContext := by
  decide

theorem witness_FaultsKeptAndLockoutStays :
    (∃ t, step lockedOut = .next t) ∧ faultsOk lockedOut ∧ lockedOut.faults.lockout = true ∧
    ∀ straps stop rest, lockedOut.pending ≠ .fullReset straps stop :: rest :=
  ⟨⟨_, rfl⟩, locked_out_faults, rfl, by intro _ _ _ h; cases h⟩

/-- A queue of 16 causes of classes P and D and one of N. -/
def fullQueue : List FaultRecord :=
  ([.badCmd, .badSample, .slotLost 0, .slotLost 1, .slotLost 2, .slotLost 3, .slotLost 4, .slotLost 5, .slotLost 6,
    .trackLost, .biteJam, .cmdAbsent, .cabLinkDown, .kellyOverload, .notFollowing .rotary] : List Cause).map (recordOf nested)

/-- A held cause; room; and full queues with and without a record of class N. -/
theorem witness_ReportRaisesOrAppends :
    let s := fun c => { nested with faults := { nested.faults with queue := fullQueue ++ [recordOf nested c] } }
    faultsOk nested ∧ nested.faults.holds .stall = false ∧ nested.faults.queue.length < 16 ∧
    (∀ c ∈ ([.actionRefused, .notFollowing .crowd] : List Cause),
      faultsOk (s c) ∧ (s c).faults.holds .stall = false ∧ (s c).faults.holds .badCmd = true ∧
        (s c).faults.queue.length = 16) ∧
    (∃ y ∈ (s .actionRefused).faults.queue, y.cls = .n) ∧
    (∀ y ∈ (s (.notFollowing .crowd)).faults.queue, y.cls ≠ .n) ∧
    ∃ y ∈ (s (.notFollowing .crowd)).faults.queue, y.cls = .d := by
  unfold faultsOk recordOk
  decide

theorem witness_GovernorStateTable :
    lockedOut.faults.lockout = true ∧ (after .stopAsserted nested).faults.tripPending = true ∧
    (after .stopAsserted nested).faults.lockout = false ∧ nested.faults.tripPending = false ∧
    nested.banks.activeValid = true ∧ nested.tracker.mode ≠ .unmapped ∧ State.reset.banks.activeValid = false := by decide

theorem witness_LockedOutRequests :
    lockedOut.faults.lockout = true ∧ (∀ space item, Request.restart ≠ .read space item) ∧
    (∀ part, Request.restart ≠ .faultRead part) ∧ ∀ index part, Request.restart ≠ .biteRead index part := by
  refine ⟨rfl, ?_, ?_, ?_⟩ <;> intros <;> simp

/-- The ends of the spaces: the last item and the first past it, and the first code that is no space; the last items of the
groups of STATE, a bite open and none, and a junction that is locked and one that is not. -/
theorem witness_ReadReturnsTheItem :
    cut.bite.ctx = some rockContext ∧ nested.bite.ctx = none ∧ locked.tracker.junctions[(1 : Fin 5)].lock = some 0 ∧
    nested.tracker.junctions[(4 : Fin 5)].lock = none ∧ (21 : Word).toNat = 9 + 3 * (4 : Fin 5).val ∧
    (42 : Word).toNat = 24 + 3 * (6 : SlotId).val ∧ (61 : Word).toNat = 59 + channelNumber .winch ∧
    (6 : Byte) = 6 ∧ (191 : Word).toNat = 6 * (31 : Fin 32).val + (5 : Fin 6).val ∧
    ([63, 63, 54, 49, 192, 2, 88] : List Nat)[(6 : Byte).toNat]? = some 88 ∧ (87 : Word).toNat < 88 ∧
    88 ≤ (88 : Word).toNat ∧ ([63, 63, 54, 49, 192, 2, 88] : List Nat)[(0 : Byte).toNat]? = some 63 ∧
    (62 : Word).toNat = (62 : Fin 63).val ∧ 7 ≤ (7 : Byte).toNat := by decide

/-- The ends of both ranges. -/
theorem witness_WriteLinkAndWriteElsewhere :
    notLockedOut nested ∧ 6 ≤ (6 : Byte).toNat ∧
    (20 ≤ (20 : Word).toInt ∧ (1000 : Word).toInt ≤ 1000) ∧ ¬ 20 ≤ (19 : Word).toInt ∧ ¬ (1001 : Word).toInt ≤ 1000 ∧
    (5000 : Word).toInt ≤ 5000 ∧ 2 ≤ (2 : Word).toNat := by
  unfold notLockedOut
  decide

theorem witness_WriteBankStoresInactive :
    notLockedOut nested ∧ notLockedOut pendingCut ∧ 63 ≤ (63 : Word).toNat ∧ (62 : Word).toNat < 63 ∧
    BankId.b = nested.banks.active ∧ BankId.a ≠ nested.banks.active ∧ nested.banks.pendingSwitch = false ∧
    pendingCut.banks.pendingSwitch = true ∧ pendingCut.reservation = some ⟨.m0, .a⟩ ∧ Manager.m0 ≠ .m1 := by
  unfold notLockedOut
  decide

theorem witness_WriteMapUnmaps :
    notLockedOut nested ∧ biteOk nested ∧ nested.tracker.mode = .tracking ∧ (53 : Word).toNat < 54 ∧
    54 ≤ (54 : Word).toNat ∧ notLockedOut State.reset ∧ biteOk State.reset ∧ State.reset.tracker.mode ≠ .tracking :=
  ⟨rfl, nested_bite, by decide, by decide, by decide, rfl, by unfold biteOk; decide, by decide⟩

/-- The first item past the space; LOSS_TIME at 10 and 9; RMIN at RMAX and one above. -/
theorem witness_WriteSignalStoresAndJudges :
    notLockedOut nested ∧ 49 ≤ (49 : Word).toNat ∧ signalOk nested ∧ (35 : Word).toNat = 7 * (5 : SlotId).val + (0 : Fin 7).val ∧
    10 ≤ (10 : Word).toInt ∧ ¬ 10 ≤ (9 : Word).toInt ∧ (30000 : Word).toInt ≤ (nested.signal.slot 5).cfg.rmax ∧
    ¬ (30001 : Word).toInt ≤ (nested.signal.slot 5).cfg.rmax :=
  ⟨rfl, by decide, nested_signal, by decide, by decide, by decide, by decide, by decide⟩

/-- The last item and the first past the space; values at the ends of the fields, a bit that is not assigned, and a clash with entry 7. -/
theorem witness_WriteRouteStoresUnlessTaken :
    notLockedOut nested ∧ 192 ≤ (192 : Word).toNat ∧ (191 : Word).toNat = 6 * (31 : Fin 32).val + (5 : Fin 6).val ∧
    (259 : Word).toNat / 256 < 2 ∧ (259 : Word).toNat % 256 < 4 ∧ (2047 : Word).toNat < 2048 ∧
    ¬ (2048 : Word).toNat < 2048 ∧ (0x1166 : Word) &&& 0xEE88 = 0 ∧ (0x1166 : Word).toNat % 8 < 7 ∧
    ¬ (0x0008 : Word) &&& 0xEE88 = 0 ∧ nested.bite.state = .idle ∧ cut.bite.state ≠ .idle ∧
    nested.routes[(7 : Fin 32)].cls ≠ .empty := by
  unfold notLockedOut
  decide

theorem witness_OpenReservesAndCancelRemoves :
    notLockedOut nested ∧ notLockedOut pendingCut ∧ 2 ≤ (2 : Byte).toNat ∧ (0 : Byte).toNat = bankCode .a ∧
    BankId.a ≠ nested.banks.active ∧ nested.banks.pendingSwitch = false ∧ pendingCut.banks.pendingSwitch = true ∧
    holdsReservation pendingCut .m0 ∧ ¬ holdsReservation pendingCut .m1 :=
  ⟨rfl, rfl, by decide, by decide, by decide, by decide, by decide, ⟨.a, rfl⟩, by rintro ⟨_, h⟩; cases h⟩

/-- No reservation; the holder of a zero bank, which fails at item 0; the holder of a valid bank in CUT and outside it. -/
theorem witness_SwitchValidatesThenWaitsOrActs :
    let zero := { nested with reservation := some ⟨.m0, .a⟩ }
    let valid := { cut with banks := { cut.banks with bankA := rockBank }, reservation := some ⟨.m0, .a⟩ }
    notLockedOut nested ∧ ¬ holdsReservation nested .m0 ∧ holdsReservation pendingCut .m0 ∧
    pendingCut.banks.pendingSwitch = true ∧ holdsReservation zero .m0 ∧ zero.banks.pendingSwitch = false ∧
    checkBankItem (zero.banks.bank (otherBank zero.banks.active)) 0 = false ∧ holdsReservation valid .m0 ∧
    (∀ i : Fin 63, checkBankItem (valid.banks.bank (otherBank valid.banks.active)) i.val = true) ∧
    valid.bite.state = .cut :=
  ⟨rfl, (by rintro ⟨_, h⟩; cases h), ⟨.a, rfl⟩, by decide, ⟨.a, rfl⟩, by decide, by decide, ⟨.a, rfl⟩, by decide, by decide⟩

theorem witness_CommitMapValidates :
    notLockedOut State.reset ∧ biteOk State.reset ∧ State.reset.tracker.mode ≠ .tracking ∧
    (∃ c post, mapChecks State.reset.kelly.items = c :: post ∧ c.passes = false) ∧
    nested.tracker.mode = .tracking ∧ ∀ x ∈ mapChecks rockKelly, x.passes = true :=
  ⟨rfl, by unfold biteOk; decide, by decide, ⟨_, _, rfl, by decide⟩, by decide, by decide⟩

/-- No record; an active STOP line; a released one; a latch's cause. -/
theorem witness_AckRemovesAndReleases :
    notLockedOut nested ∧ 23 ≤ (23 : Byte).toNat ∧ nested.faults.holds .stopLine = false ∧
    (after .stopAsserted nested).faults.holds .stopLine = true ∧
    (after .stopAsserted nested).chan.stopLine = .asserted ∧ notLockedOut (after .stopAsserted nested) ∧
    (after .stopReleased (after .stopAsserted nested)).faults.holds .stopLine = true ∧
    (after .stopReleased (after .stopAsserted nested)).chan.stopLine ≠ .asserted := by
  unfold notLockedOut
  decide

theorem witness_RecordsAreReadInParts :
    lockedOut.faults.queue ≠ [] ∧ nested.faults.queue = [] ∧ 2 ≤ (2 : Byte).toNat ∧ 8 ≤ (8 : Byte).toNat ∧
    nested.bite.log.length ≤ (0 : Byte).toNat ∧
    let s := after .settleTimerExpiry (biteIn .settle)
    ∃ r, s.bite.log[(0 : Byte).toNat]? = some r ∧ 0 ≤ r.bl ∧ r.bl ≤ 3000 ∧ 0 ≤ r.peakT ∧ 0 ≤ r.peakPush :=
  ⟨by decide, by decide, by decide, by decide, by decide, _, rfl, by decide, by decide, by decide, by decide⟩

theorem witness_ModesChange :
    notLockedOut nested ∧ 3 ≤ (3 : Byte).toNat ∧ 2 ≤ (2 : Byte).toNat ∧ LinkMode.normal = nested.chan.linkMode ∧
    LinkMode.loopback ≠ nested.chan.linkMode ∧ nested.bite.state = .idle ∧ cut.bite.state ≠ .idle := by
  unfold notLockedOut
  decide

/-- A bite in CUT with a switch pending; a chain still open; a link still down. -/
theorem witness_RestartKeepsAndClears :
    notLockedOut pendingCut ∧ biteOk pendingCut ∧ pendingCut.bite.ctx = some rockContext ∧
    pendingCut.stopInput = .released ∧ pendingCut.drive.state = .online ∧ notLockedOut (after .stopAsserted nested) ∧
    (after .stopAsserted nested).stopInput = .asserted ∧ notLockedOut (after (.transmitFailure .drive) nested) ∧
    (after (.transmitFailure .drive) nested).drive.state = .offline := by
  refine ⟨rfl, cut_bite, ?_, ?_, ?_, ?_, ?_, ?_, ?_⟩ <;> first | decide | (unfold notLockedOut; decide)

/-- An expiry that lets a pending switch take effect. -/
theorem witness_ActiveBankIsNeverWritten :
    ∃ t, step (pendingCut.withPending [.noProgressExpiry]) = .next t ∧ t.banks.active ≠ pendingCut.banks.active ∧
      ∀ straps stop rest, (pendingCut.withPending [.noProgressExpiry]).pending ≠ .fullReset straps stop :: rest :=
  ⟨_, rfl, by decide, by intro _ _ _ h; cases h⟩

theorem witness_PortsAndNeutralKept :
    (∃ t, step lockedOut = .next t) ∧ portsOk nested ∧ neutralOk lockedOut ∧ lockedOut.faults.lockout = true :=
  ⟨⟨_, rfl⟩, nested_ports, locked_out_neutral, rfl⟩

theorem witness_RoutesSignalAndTrackingKept :
    (∃ t, step nested = .next t) ∧ routesOk nested ∧ signalOk nested ∧ trackingOk nested :=
  ⟨⟨_, rfl⟩, nested_routes, nested_signal, nested_tracking⟩

theorem witness_BiteAndBanksKept :
    (∃ t, step pendingCut = .next t) ∧ biteOk pendingCut ∧ banksOk pendingCut ∧ openBiteOk pendingCut := by
  refine ⟨⟨_, rfl⟩, cut_bite, pending_banks, ?_⟩
  intro x h
  cases h
  unfold contextOk
  decide

theorem witness_ConditionerKept :
    (∃ t, step nested = .next t) ∧ channelsOk nested ∧ banksOk nested ∧ trackingOk nested ∧ setpointsOk nested :=
  ⟨⟨_, rfl⟩, nested_channels, nested_banks, nested_tracking, nested_setpoints⟩

end Sys2Proof.Tests
end

section
/-! What each stage of the conditioner computes: the facts about Stages 1, 3 and 4 that the statements of chapter 05 are
assembled from (R76, R80, R83), and the theorems that settle them. -/

namespace Sys2Proof.Machine

/-! ## Integer arithmetic (00_scope.md) -/

theorem magnitude_eq_abs (x : Int) : magnitude x = |x| := Int.natCast_natAbs x

/-- A share x / d of k, for x in 0..d, lies in 0..k. -/
theorem truncDiv_share_bounds {x d k : Int} (hx : 0 ≤ x) (hxd : x ≤ d) (hd : 0 < d) (hk : 0 ≤ k) :
    0 ≤ truncDiv (x * k) d ∧ truncDiv (x * k) d ≤ k := by
  unfold truncDiv
  have hprod : 0 ≤ x * k := mul_nonneg hx hk
  rw [Int.tdiv_eq_ediv_of_nonneg hprod]
  refine ⟨Int.ediv_nonneg hprod hd.le, ?_⟩
  calc x * k / d ≤ d * k / d := Int.ediv_le_ediv hd (mul_le_mul_of_nonneg_right hxd hk)
    _ = k := Int.mul_ediv_cancel_left k hd.ne'

/-- Linear interpolation with truncation stays between its end values, rising or falling. -/
theorem interpolate_between {x d : Int} (u v : Int) (hx : 0 ≤ x) (hxd : x ≤ d) (hd : 0 < d) :
    min u v ≤ u + truncDiv (x * (v - u)) d ∧ u + truncDiv (x * (v - u)) d ≤ max u v := by
  rcases le_total u v with huv | hvu
  · obtain ⟨hlo, hhi⟩ := truncDiv_share_bounds hx hxd hd (sub_nonneg.2 huv)
    omega
  · obtain ⟨hlo, hhi⟩ := truncDiv_share_bounds hx hxd hd (sub_nonneg.2 hvu)
    have hneg : truncDiv (x * (v - u)) d = -truncDiv (x * (u - v)) d := by
      unfold truncDiv
      rw [← Int.neg_tdiv, ← mul_neg, neg_sub]
    omega

/-! ## What the validation of a bank guarantees (R137, Table 8-1) -/

theorem within_iff (x lo hi : Int) : within x lo hi = true ↔ lo ≤ x ∧ x ≤ hi := by simp [within]

theorem checkBankItem_of_valid {b : Bank} (hb : bankFault b = none) {i : Nat} (hi : i < 63) :
    checkBankItem b i = true := by
  simpa using List.find?_eq_none.1 hb i (List.mem_range.2 hi)

theorem envelopeCount_of_valid {b : Bank} (hb : bankFault b = none) : 2 ≤ envelopeCount b ∧ envelopeCount b ≤ 12 :=
  (within_iff _ _ _).1 (checkBankItem_of_valid hb (i := 0) (by decide))

theorem checkBankItem_torque (b : Bank) {i : Nat} (hi : i < 12) : checkBankItem b (1 + 2 * i) = checkTorque b i := by
  have hrow : 1 + 2 * i ≤ 24 := by omega
  simp [checkBankItem, hrow]

theorem checkBankItem_speed (b : Bank) {i : Nat} (hi : i < 12) : checkBankItem b (2 + 2 * i) = checkSpeed b i := by
  have hrow : 2 + 2 * i ≤ 24 := by omega
  simp [checkBankItem, hrow]

/-- The torques of the n points in use ascend. -/
def envelopeAscends (b : Bank) : Prop :=
  ∀ i, i + 1 < (envelopeCount b).toNat → envelopeTorque b i < envelopeTorque b (i + 1)

theorem envelopeTorque_zero_of_valid {b : Bank} (hb : bankFault b = none) : envelopeTorque b 0 = 0 := by
  obtain ⟨hlo, -⟩ := envelopeCount_of_valid hb
  have hused : ¬ envelopeCount b ≤ (0 : Nat) := by omega
  have hcheck := checkBankItem_of_valid hb (i := 1 + 2 * 0) (by decide)
  rw [checkBankItem_torque b (by decide), checkTorque, if_neg hused] at hcheck
  simpa using (Bool.and_eq_true_iff.1 hcheck).2

theorem envelopeAscends_of_valid {b : Bank} (hb : bankFault b = none) : envelopeAscends b := by
  intro i hi
  obtain ⟨-, hhi⟩ := envelopeCount_of_valid hb
  have hused : ¬ envelopeCount b ≤ (i + 1 : Nat) := by omega
  have hcheck := checkBankItem_of_valid hb (i := 1 + 2 * (i + 1)) (by omega)
  rw [checkBankItem_torque b (by omega), checkTorque, if_neg hused] at hcheck
  simpa using (Bool.and_eq_true_iff.1 hcheck).2

theorem envelopeSpeed_of_valid {b : Bank} (hb : bankFault b = none) {i : Nat} (hi : i < (envelopeCount b).toNat) :
    0 ≤ envelopeSpeed b i ∧ envelopeSpeed b i ≤ 600 := by
  obtain ⟨-, hhi⟩ := envelopeCount_of_valid hb
  have hused : ¬ envelopeCount b ≤ i := by omega
  have hcheck := checkBankItem_of_valid hb (i := 2 + 2 * i) (by omega)
  rw [checkBankItem_speed b (by omega), checkSpeed, if_neg hused] at hcheck
  exact (within_iff _ _ _).1 hcheck

theorem derate_order_of_valid {b : Bank} (hb : bankFault b = none) : derateStart b < derateEnd b := by
  have hcheck : (within (derateEnd b) 0 2000 && decide (derateStart b < derateEnd b)) = true :=
    checkBankItem_of_valid hb (i := 26) (by decide)
  simpa using (Bool.and_eq_true_iff.1 hcheck).2

theorem derateMin_of_valid {b : Bank} (hb : bankFault b = none) : 0 ≤ derateMin b ∧ derateMin b ≤ 256 :=
  (within_iff _ _ _).1 (checkBankItem_of_valid hb (i := 27) (by decide))

theorem safePush_of_valid {b : Bank} (hb : bankFault b = none) : 0 ≤ safePush b ∧ safePush b ≤ 2000 :=
  (within_iff _ _ _).1 (checkBankItem_of_valid hb (i := 40) (by decide))

/-! ## Stage 1: the envelope limit (R76) -/

theorem onSegment_iff (b : Bank) (a : Int) (i : Nat) :
    onSegment b a i = true ↔ envelopeTorque b i ≤ a ∧ a < envelopeTorque b (i + 1) := by simp [onSegment]

/-- From a first torque at or below a to a later one above it, some segment holds a. -/
theorem exists_onSegment {b : Bank} {a : Int} (hfirst : envelopeTorque b 0 ≤ a) :
    ∀ {m : Nat}, a < envelopeTorque b m → ∃ i, i < m ∧ envelopeTorque b i ≤ a ∧ a < envelopeTorque b (i + 1)
  | 0, hlast => absurd hfirst (not_le.2 hlast)
  | m + 1, hlast => by
    rcases le_or_gt (envelopeTorque b m) a with hm | hm
    · exact ⟨m, m.lt_succ_self, hm, hlast⟩
    · obtain ⟨i, him, hseg⟩ := exists_onSegment hfirst hm
      exact ⟨i, him.trans m.lt_succ_self, hseg⟩

theorem envelopeTorque_mono {b : Bank} (hasc : envelopeAscends b) {i j : Nat} (hij : i ≤ j)
    (hj : j < (envelopeCount b).toNat) : envelopeTorque b i ≤ envelopeTorque b j := by
  induction j, hij using Nat.le_induction with
  | base => exact le_rfl
  | succ j _ ih => exact (ih (by omega)).trans (hasc j hj).le

theorem onSegment_unique {b : Bank} (hasc : envelopeAscends b) {a : Int} {i j : Nat}
    (hi : i + 1 < (envelopeCount b).toNat) (hj : j + 1 < (envelopeCount b).toNat)
    (hia : envelopeTorque b i ≤ a) (hai : a < envelopeTorque b (i + 1))
    (hja : envelopeTorque b j ≤ a) (haj : a < envelopeTorque b (j + 1)) : j = i := by
  rcases lt_trichotomy j i with hlt | heq | hgt
  · have hmono := envelopeTorque_mono hasc (show j + 1 ≤ i from hlt) (by omega)
    omega
  · exact heq
  · have hmono := envelopeTorque_mono hasc (show i + 1 ≤ j from hgt) (by omega)
    omega

theorem envelopeLimit_of_last_le {b : Bank} {a : Int}
    (h : envelopeTorque b ((envelopeCount b).toNat - 1) ≤ a) :
    envelopeLimit b a = envelopeSpeed b ((envelopeCount b).toNat - 1) := if_pos h

/-- On a segment of ascending torques the limit is that segment's: the search finds it and no earlier one. -/
theorem envelopeLimit_of_onSegment {b : Bank} (hasc : envelopeAscends b) {a : Int} {i : Nat}
    (hi : i + 1 < (envelopeCount b).toNat) (hia : envelopeTorque b i ≤ a) (hai : a < envelopeTorque b (i + 1)) :
    envelopeLimit b a = segmentSpeed b a i := by
  have hbelow : ¬ envelopeTorque b ((envelopeCount b).toNat - 1) ≤ a :=
    not_le.2 (hai.trans_le (envelopeTorque_mono hasc (by omega) (by omega)))
  have hfind : (List.range ((envelopeCount b).toNat - 1)).find? (onSegment b a) = some i := by
    refine List.find?_range_eq_some.2 ⟨(onSegment_iff b a i).2 ⟨hia, hai⟩, List.mem_range.2 (by omega), fun j hji => ?_⟩
    have hnot : ¬ (envelopeTorque b j ≤ a ∧ a < envelopeTorque b (j + 1)) := fun ⟨hja, haj⟩ =>
      hji.ne (onSegment_unique hasc hi (by omega) hia hai hja haj)
    simpa [← onSegment_iff] using hnot
  simp only [envelopeLimit, if_neg hbelow, hfind]

theorem segmentSpeed_between {b : Bank} {a : Int} {i : Nat} (hia : envelopeTorque b i ≤ a)
    (hai : a < envelopeTorque b (i + 1)) :
    min (envelopeSpeed b i) (envelopeSpeed b (i + 1)) ≤ segmentSpeed b a i ∧
      segmentSpeed b a i ≤ max (envelopeSpeed b i) (envelopeSpeed b (i + 1)) :=
  interpolate_between _ _ (by omega) (by omega) (by omega)

/-- At a torque magnitude the envelope of a valid bank is past its last point or on one of its segments. -/
theorem envelope_cases {b : Bank} (hb : bankFault b = none) {a : Int} (ha : 0 ≤ a) :
    envelopeTorque b ((envelopeCount b).toNat - 1) ≤ a ∨
      ∃ i, i + 1 < (envelopeCount b).toNat ∧ envelopeTorque b i ≤ a ∧ a < envelopeTorque b (i + 1) := by
  refine (le_or_gt _ a).imp_right fun hlast => ?_
  obtain ⟨i, hi, hseg⟩ := exists_onSegment ((envelopeTorque_zero_of_valid hb).trans_le ha) hlast
  exact ⟨i, by omega, hseg⟩

theorem envelopeLimit_range {b : Bank} (hb : bankFault b = none) {a : Int} (ha : 0 ≤ a) :
    0 ≤ envelopeLimit b a ∧ envelopeLimit b a ≤ 600 := by
  obtain ⟨hcount, -⟩ := envelopeCount_of_valid hb
  rcases envelope_cases hb ha with hlast | ⟨i, hi, hia, hai⟩
  · rw [envelopeLimit_of_last_le hlast]
    exact envelopeSpeed_of_valid hb (by omega)
  · rw [envelopeLimit_of_onSegment (envelopeAscends_of_valid hb) hi hia hai]
    have hbetween := segmentSpeed_between hia hai
    have hlower := envelopeSpeed_of_valid hb (show i < _ by omega)
    have hupper := envelopeSpeed_of_valid hb hi
    omega

theorem itemAt_congr {n : Nat} {xs ys : Vector Word n} (i : Fin n) (h : xs[i] = ys[i]) :
    itemAt xs i = itemAt ys i := by
  have hget : xs[i.val] = ys[i.val] := h
  simp [itemAt, hget]

/-- The limit reads only the count and the points it counts. -/
theorem envelopeLimit_congr {b d : Bank} (hb : bankFault b = none) {a : Int} (ha : 0 ≤ a)
    (h : ∀ j : Fin 63, j.val ≤ 2 * (envelopeCount b).toNat → d[j] = b[j]) :
    envelopeLimit d a = envelopeLimit b a := by
  obtain ⟨hlo, hhi⟩ := envelopeCount_of_valid hb
  have hitem : ∀ j, j ≤ 2 * (envelopeCount b).toNat → itemAt d j = itemAt b j := fun j hj =>
    itemAt_congr ⟨j, by omega⟩ (h _ hj)
  have hcount : envelopeCount d = envelopeCount b := hitem 0 (by omega)
  have htorque : ∀ i, i < (envelopeCount b).toNat → envelopeTorque d i = envelopeTorque b i := fun i hi =>
    hitem _ (by omega)
  have hspeed : ∀ i, i < (envelopeCount b).toNat → envelopeSpeed d i = envelopeSpeed b i := fun i hi =>
    hitem _ (by omega)
  have hasc := envelopeAscends_of_valid hb
  have hasc' : envelopeAscends d := fun i hi => by
    rw [hcount] at hi
    rw [htorque i (by omega), htorque _ hi]
    exact hasc i hi
  rcases envelope_cases hb ha with hlast | ⟨i, hi, hia, hai⟩
  · rw [envelopeLimit_of_last_le hlast, envelopeLimit_of_last_le (by rwa [hcount, htorque _ (by omega)]), hcount,
      hspeed _ (by omega)]
  · have hi₀ : i < (envelopeCount b).toNat := by omega
    rw [envelopeLimit_of_onSegment hasc hi hia hai,
      envelopeLimit_of_onSegment hasc' (hcount ▸ hi) ((htorque i hi₀).trans_le hia) (hai.trans_eq (htorque _ hi).symm)]
    simp only [segmentSpeed, htorque i hi₀, htorque _ hi, hspeed i hi₀, hspeed _ hi]

/-- Settles O17: a valid bank's torques ascend from 0, so one segment holds |T| below the last point, and the model's
search answers that segment. -/
theorem envelopeLimitOfValidBank : Obligations.EnvelopeLimitOfValidBank := by
  intro b a hb ha
  have hasc := envelopeAscends_of_valid hb
  obtain ⟨hcountLo, hcountHi⟩ := envelopeCount_of_valid hb
  obtain ⟨hlimitLo, hlimitHi⟩ := envelopeLimit_range hb ha
  refine ⟨⟨hcountLo, hcountHi, envelopeTorque_zero_of_valid hb, hasc, fun i hi => envelopeSpeed_of_valid hb hi⟩,
    envelopeLimit_of_last_le, fun hlast => ?_, fun i hi hia hai => ?_, hlimitLo, hlimitHi,
    fun d hd => envelopeLimit_congr hb ha hd, fun s r => ⟨rfl, magnitude_eq_abs _⟩⟩
  · obtain ⟨i, hi, hia, hai⟩ := (envelope_cases hb ha).resolve_left (not_le.2 hlast)
    exact ⟨i, hi, hia, hai, fun j hj hja haj => onSegment_unique hasc hi hj hia hai hja haj⟩
  · have hlimit := envelopeLimit_of_onSegment hasc hi hia hai
    exact ⟨hlimit, hlimit ▸ segmentSpeed_between hia hai⟩

/-! ## Stage 3: the derate and the effective push limit (R80) -/

theorem derateFactor_of_le_start {b : Bank} {a : Int} (h : a ≤ derateStart b) : derateFactor b a = 256 := if_pos h

theorem derateFactor_of_end_le {b : Bank} (horder : derateStart b < derateEnd b) {a : Int} (h : derateEnd b ≤ a) :
    derateFactor b a = derateMin b := by
  rw [derateFactor, if_neg (by omega), if_pos h]

theorem derateFactor_of_between {b : Bank} {a : Int} (hlo : derateStart b < a) (hhi : a < derateEnd b) :
    derateFactor b a =
      256 - truncDiv ((a - derateStart b) * (256 - derateMin b)) (derateEnd b - derateStart b) := by
  rw [derateFactor, if_neg (by omega), if_neg (by omega)]

theorem derateFactor_range {b : Bank} (hb : bankFault b = none) (a : Int) :
    derateMin b ≤ derateFactor b a ∧ derateFactor b a ≤ 256 := by
  have horder := derate_order_of_valid hb
  obtain ⟨hminLo, hminHi⟩ := derateMin_of_valid hb
  rcases le_or_gt a (derateStart b) with hstart | hstart
  · rw [derateFactor_of_le_start hstart]
    omega
  rcases le_or_gt (derateEnd b) a with hend | hend
  · rw [derateFactor_of_end_le horder hend]
    omega
  · rw [derateFactor_of_between hstart hend]
    obtain ⟨hcutLo, hcutHi⟩ := truncDiv_share_bounds (x := a - derateStart b) (d := derateEnd b - derateStart b)
      (k := 256 - derateMin b) (by omega) (by omega) (by omega) (by omega)
    omega

theorem effectivePush_range {fk d : Int} (hfk : 0 ≤ fk) (hlo : 0 ≤ d) (hhi : d ≤ 256) :
    0 ≤ effectivePush fk d ∧ effectivePush fk d ≤ fk := by
  rw [effectivePush, mul_comm]
  exact truncDiv_share_bounds hlo hhi (by decide) hfk

/-! ### The kelly push limit (R65) -/

theorem leastOf_mem {xs : List Int} (h : xs ≠ []) : leastOf xs ∈ xs := by
  cases xs with
  | nil => exact absurd rfl h
  | cons x xs => exact List.min?_mem List.min?_cons'

theorem mapCheck_passes_of_valid {m : MapItems} (hm : mapFault m = none) {c : MapCheck} (hc : c ∈ mapChecks m) :
    c.passes = true := by
  simpa using List.find?_eq_none.1 hm c hc

theorem mapSections_of_valid {m : MapItems} (hm : mapFault m = none) : 2 ≤ mapSections m ∧ mapSections m ≤ 6 :=
  (within_iff _ _ _).1 (mapCheck_passes_of_valid hm
    (c := { passes := within (mapSections m) 2 6, reason := .sections, item := 0 })
    (by simp [mapChecks, generalChecks]))

theorem junctionsUsed_ne_nil_of_valid {m : MapItems} (hm : mapFault m = none) : junctionsUsed m ≠ [] := by
  obtain ⟨hsections, -⟩ := mapSections_of_valid hm
  have hfirst : (0 : Fin 5) ∈ junctionsUsed m :=
    List.mem_filter.2 ⟨by decide, by simpa [junctionInUse] using hsections⟩
  exact List.ne_nil_of_mem hfirst

theorem junctionCheck_passes_of_valid {m : MapItems} (hm : mapFault m = none) {k : Fin 5} (hk : k ∈ junctionsUsed m)
    {c : MapCheck} (hc : c ∈ junctionChecks m k) : c.passes = true :=
  mapCheck_passes_of_valid hm (List.mem_append_right _ (List.mem_flatMap.2 ⟨k, hk, hc⟩))

theorem junctionRating_of_valid {m : MapItems} (hm : mapFault m = none) {k : Fin 5} (hk : k ∈ junctionsUsed m)
    (j : JunctionState) : 0 ≤ junctionRating m k j ∧ junctionRating m k j ≤ 2000 := by
  have hcheck : ∀ x i, { passes := within x 0 2000, reason := .rating, item := i } ∈ junctionChecks m k →
      0 ≤ x ∧ x ≤ 2000 := fun x i hx => (within_iff _ _ _).1 (junctionCheck_passes_of_valid hm hk hx)
  cases j with
  | nested => exact hcheck (ratingNested m k) (junctionItem k 1) (by simp [junctionChecks])
  | locked => exact hcheck (ratingLocked m k) (junctionItem k 2) (by simp [junctionChecks])
  | free | full => exact hcheck (ratingFree m k) (junctionItem k 3) (by simp [junctionChecks])

theorem pushLimit_of_tracking {s : State} (h : s.tracker.mode = .tracking) :
    s.pushLimit = leastOf ((junctionsUsed s.kelly.items).map fun k =>
      junctionRating s.kelly.items k s.tracker.junctions[k].state) := by
  simp only [State.pushLimit, h]

theorem pushLimit_of_not_tracking {s : State} (h : s.tracker.mode ≠ .tracking) :
    s.pushLimit = safePush s.activeBank := by
  unfold State.pushLimit
  cases hmode : s.tracker.mode with
  | tracking => exact absurd hmode h
  | unmapped | seeking | lost => rfl

theorem mapFault_of_tracking {s : State} (hs : trackingOk s) (h : s.tracker.mode = .tracking) :
    mapFault s.kelly.items = none := by
  obtain ⟨hunmapped, hvalid, -⟩ := hs
  refine hvalid (by_contra fun hnot => ?_)
  simp [hunmapped.2 (Bool.eq_false_iff.2 hnot)] at h

theorem pushLimit_range_of_tracking {s : State} (hs : trackingOk s) (h : s.tracker.mode = .tracking) :
    0 ≤ s.pushLimit ∧ s.pushLimit ≤ 2000 := by
  have hm := mapFault_of_tracking hs h
  rw [pushLimit_of_tracking h]
  obtain ⟨k, hk, hrating⟩ :=
    List.mem_map.1 (leastOf_mem (mt List.map_eq_nil_iff.1 (junctionsUsed_ne_nil_of_valid hm)))
  rw [← hrating]
  exact junctionRating_of_valid hm hk _

/-- Settles O18: D and FE are shares of a whole, and FK is one of the ratings that a valid map keeps in range,
or FSAFE. -/
theorem derateOfValidBank : Obligations.DerateOfValidBank := by
  intro b a fk hb hfk
  have horder := derate_order_of_valid hb
  obtain ⟨hminLo, hminHi⟩ := derateMin_of_valid hb
  obtain ⟨hfactorLo, hfactorHi⟩ := derateFactor_range hb a
  obtain ⟨hpushLo, hpushHi⟩ := effectivePush_range hfk (hminLo.trans hfactorLo) hfactorHi
  refine ⟨horder, hminLo, hminHi, derateFactor_of_le_start, derateFactor_of_end_le horder, derateFactor_of_between,
    hfactorLo, hfactorHi, rfl, hpushLo, hpushHi, fun s hs htracking => ?_⟩
  subst hs
  refine ⟨fun r => ⟨rfl, rfl⟩, pushLimit_range_of_tracking htracking, fun hmode => ?_⟩
  have hsafe := pushLimit_of_not_tracking hmode
  exact ⟨hsafe, hsafe.symm ▸ (safePush_of_valid hb).1⟩

/-! ## Stage 4: the ramp (R83) -/

theorem moveToward_of_within {p g step : Int} (h : |g - p| ≤ step) : moveToward p g step = g :=
  if_pos ((magnitude_eq_abs _).trans_le h)

theorem moveToward_of_beyond {p g step : Int} (hstep : 0 < step) (h : step < |g - p|) :
    moveToward p g step = p + (g - p).sign * step := by
  rw [moveToward, magnitude_eq_abs, if_neg (not_le.2 h)]
  rcases lt_trichotomy p g with hlt | heq | hgt
  · rw [if_pos hlt, Int.sign_eq_one_of_pos (by omega), one_mul]
  · subst heq
    simp only [sub_self, abs_zero] at h
    omega
  · rw [if_neg (by omega), Int.sign_eq_neg_one_of_neg (by omega)]
    ring

/-- One step toward g stays between p and g, moves by at most the step, and comes at least 1 nearer. -/
theorem moveToward_bounds {p g step : Int} (hstep : 0 < step) :
    min p g ≤ moveToward p g step ∧ moveToward p g step ≤ max p g ∧ |moveToward p g step - p| ≤ step ∧
      (g - moveToward p g step).natAbs ≤ (g - p).natAbs - 1 := by
  rw [Int.abs_eq_natAbs]
  unfold moveToward magnitude
  split_ifs <;> omega

theorem oppositeSigns_iff (p g : Int) : oppositeSigns p g = true ↔ (0 < p ∧ g < 0) ∨ (p < 0 ∧ 0 < g) := by
  simp [oppositeSigns]

section
variable {p g rise fall : Int}

theorem ramp_of_opposite (h : (0 < p ∧ g < 0) ∨ (p < 0 ∧ 0 < g)) : ramp p g rise fall = moveToward p 0 fall :=
  if_pos ((oppositeSigns_iff p g).2 h)

theorem ramp_of_growing (h : ¬ ((0 < p ∧ g < 0) ∨ (p < 0 ∧ 0 < g))) (hgrow : |p| < |g|) :
    ramp p g rise fall = moveToward p g rise := by
  rw [ramp, if_neg (mt (oppositeSigns_iff p g).1 h), magnitude_eq_abs, magnitude_eq_abs, if_pos hgrow]

theorem ramp_of_falling (h : ¬ ((0 < p ∧ g < 0) ∨ (p < 0 ∧ 0 < g))) (hfall : |g| ≤ |p|) :
    ramp p g rise fall = moveToward p g fall := by
  rw [ramp, if_neg (mt (oppositeSigns_iff p g).1 h), magnitude_eq_abs, magnitude_eq_abs, if_neg (not_lt.2 hfall)]

theorem ramp_reversal_beyond (hfall : 0 < fall) (h : (0 < p ∧ g < 0) ∨ (p < 0 ∧ 0 < g)) (hp : fall < |p|) :
    ramp p g rise fall = p - p.sign * fall := by
  rw [ramp_of_opposite h, moveToward_of_beyond hfall (by simpa using hp), zero_sub, Int.sign_neg]
  ring

theorem ramp_reversal_keeps_sign (hfall : 0 < fall) (h : (0 < p ∧ g < 0) ∨ (p < 0 ∧ 0 < g)) :
    0 ≤ ramp p g rise fall * p := by
  rw [ramp_of_opposite h]
  obtain ⟨hlo, hhi, -⟩ := moveToward_bounds (p := p) (g := 0) hfall
  rcases h with ⟨hp, -⟩ | ⟨hp, -⟩
  · exact mul_nonneg (by omega) hp.le
  · exact mul_nonneg_of_nonpos_of_nonpos (by omega) hp.le

/-- The bounds of one step hold of the ramp in all three of its cases: 0 lies on the way of a reversal. -/
theorem ramp_bounds (hrise : 0 < rise) (hfall : 0 < fall) :
    min p g ≤ ramp p g rise fall ∧ ramp p g rise fall ≤ max p g ∧ |ramp p g rise fall - p| ≤ max rise fall ∧
      (g - ramp p g rise fall).natAbs ≤ (g - p).natAbs - 1 := by
  by_cases hopp : (0 < p ∧ g < 0) ∨ (p < 0 ∧ 0 < g)
  · rw [ramp_of_opposite hopp]
    have hstep := moveToward_bounds (p := p) (g := 0) hfall
    omega
  rcases lt_or_ge |p| |g| with hgrow | hshrink
  · rw [ramp_of_growing hopp hgrow]
    have hstep := moveToward_bounds (p := p) (g := g) hrise
    omega
  · rw [ramp_of_falling hopp hshrink]
    have hstep := moveToward_bounds (p := p) (g := g) hfall
    omega

/-- Each command brings the setpoint at least 1 nearer, so as many commands as the distance reach the target. -/
theorem ramp_iterate_eq_target (hrise : 0 < rise) (hfall : 0 < fall) :
    ∀ {n : Nat} {p : Int}, (g - p).natAbs ≤ n → (fun x => ramp x g rise fall)^[n] p = g
  | 0, p, hn => by
    rw [Function.iterate_zero_apply]
    omega
  | n + 1, p, hn => by
    obtain ⟨-, -, -, hnearer⟩ := ramp_bounds (p := p) (g := g) hrise hfall
    rw [Function.iterate_succ_apply]
    exact ramp_iterate_eq_target hrise hfall (by omega)

end

/-- Settles O19: each case of the ramp is one step of `moveToward`, which comes nearer to its target and never passes
it; the claims about Stage 4 are the definitions of the two channels. -/
theorem rampStepsTowardTarget : Obligations.RampStepsTowardTarget := by
  refine ⟨fun p g rise fall hrise hfall => ?_, fun x latch => ⟨rfl, rfl⟩⟩
  obtain ⟨hlo, hhi, hmoved, -⟩ := ramp_bounds (p := p) (g := g) hrise hfall
  refine ⟨fun hopp hp => ?_, ramp_reversal_beyond hfall, fun hsame hgrow hnear => ?_, fun hsame hgrow hfar => ?_,
    fun hsame hshrink hnear => ?_, fun hsame hshrink hfar => ?_, ramp_reversal_keeps_sign hfall, hlo, hhi, hmoved,
    ramp_iterate_eq_target hrise hfall (by omega)⟩
  · rw [ramp_of_opposite hopp, moveToward_of_within (by simpa using hp)]
  · rw [ramp_of_growing hsame hgrow, moveToward_of_within hnear]
  · rw [ramp_of_growing hsame hgrow, moveToward_of_beyond hrise hfar]
  · rw [ramp_of_falling hsame hshrink, moveToward_of_within hnear]
  · rw [ramp_of_falling hsame hshrink, moveToward_of_beyond hfall hfar]

end Sys2Proof.Machine
end

section
/-! What a step can be: a full reset, a drive command taken, the effect of a request with its reply, or a chain of the other
events of the part. Every invariant is derived from these cases; the meanings of the commands are unfolded here once. -/

namespace Sys2Proof.Machine

/-- One event of the part that is neither a full reset, nor a drive command taken, nor the effect of a request. -/
inductive Event : State → State → Prop
  | wait (s : State) (rest : List Instr) : Event s (s.withPending rest)
  | millisecond (s : State) : Event s s.countDown
  | report (s : State) (c : Cause) (hc : c.cls ≠ .t) : Event s (s.record c)
  | reply (s : State) (m : Manager) (code : Nat) (tag : Byte) (r : Reply) (hr : r.data.length ≤ 6) :
      Event s (s.sendReply m code tag r)
  | sample (s : State) (i : SlotId) (v : Int) : Event s (s.takeSample i v)
  | forward (s : State) (port : PortId) (f : Frame) (hf : isOwnIdent s.node f.ident = false) :
      Event s (s.forward port f)
  | complete (s : State) (port : PortId) : Event s (s.withPort port (s.port port).complete)
  | fail (s : State) (port : PortId) (ho : (s.port port).state = .online) :
      Event s ((s.withPort port (s.port port).fail).reportLinkDown port)
  | recover (s : State) (port : PortId) : Event s (s.withPort port (s.port port).recover)
  | commandAbsent (s : State) : Event s s.commandAbsent
  | slotAbsent (s : State) (i : SlotId) : Event s (s.slotAbsent i)
  | noProgress (s : State) : Event s s.noProgress
  | settleOver (s : State) : Event s s.settleOver
  | status (s : State) : Event s s.sendStatus
  | stopAsserted (s : State) : Event s ((s.withStop .asserted).reportTrip .stopLine)
  | stopReleased (s : State) : Event s (s.withStop .released)

/-- The effect of a request, with the checks it has passed (R147); a refused one and a read have none. -/
inductive Effect : State → State → Prop
  | none (s : State) : Effect s s
  | writeBank (s : State) (m : Manager) (bank : BankId) (i : Nat) (v : Word) (hb : bank ≠ s.banks.active)
      (hp : s.banks.pendingSwitch = false) :
      Effect s ((s.withBanks (s.banks.withBank bank ((s.banks.bank bank).setIfInBounds i v))).afterBankWrite m bank)
  | writeMap (s : State) (i : Nat) (v : Word) (hm : s.tracker.mode ≠ .tracking) :
      Effect s ((((s.withKelly { items := s.kelly.items.setIfInBounds i v, committed := false }).withTracker
        s.tracker.unmap).deliverTrackerChange s.tracker.mode).refreshMapped i)
  | writeSignal (s : State) (i : SlotId) (j : Nat) (v : Int) {t : State} (h : s.writeSlotItem i j v = some t) : Effect s t
  | writeRoute (s : State) (k : Fin 32) (j v : Nat) {e : RouteEntry} (he : s.routes[k].edit j v = some e)
      (hfree : ¬ (e.cls ≠ .empty ∧ s.routeTaken k e)) : Effect s (s.withRoutes (s.routes.set k e))
  | writeLink (s : State) (x : LinkItems) : Effect s (s.withLink x)
  | openBank (s : State) (r : Reservation) (hp : s.banks.pendingSwitch = false) (hb : r.bank ≠ s.banks.active) :
      Effect s (s.withReservation (some r))
  | switchWaits (s : State) (hr : s.reservation.isSome = true)
      (hv : bankFault (s.banks.bank (otherBank s.banks.active)) = none) (hc : s.bite.state = .cut) :
      Effect s (s.withBanks { s.banks with pendingSwitch := true })
  | switchActs (s : State) (hp : s.banks.pendingSwitch = false)
      (hv : bankFault (s.banks.bank (otherBank s.banks.active)) = none) : Effect s s.switchBanks
  | cancel (s : State) : Effect s (s.withBanks { s.banks with pendingSwitch := false })
  | commitMap (s : State) (hm : s.tracker.mode ≠ .tracking) (hv : mapFault s.kelly.items = none) : Effect s s.commitMap
  | ack (s : State) (c : Cause) (hl : notLockedOut s) (hh : s.faults.holds c = true) (ha : s.stillActive c = false) :
      Effect s ((s.withFaults (s.faults.remove c)).clearLatch c)
  | channelMode (s : State) (c : Channel) (x : ChannelMode) : Effect s (s.changeMode c x)
  | linkMode (s : State) (x : LinkMode) (hi : s.bite.state = .idle) :
      Effect s ((s.withChan { s.chan with linkMode := x }).withPrev zeroSetpoints)
  | restart (s : State) (hl : notLockedOut s) : Effect s s.restart

/-- Events in turn. -/
abbrev Events : State → State → Prop := Relation.ReflTransGen Event

/-- A predicate that every event keeps is kept by events in turn. -/
theorem Events.keeps {P : State → Prop} (hP : ∀ {s t}, Event s t → P s → P t) {s t : State} (h : Events s t)
    (hs : P s) : P t := by
  induction h with
  | refl => exact hs
  | tail _ hlast ih => exact hP hlast ih

/-- A reflexive and transitive relation that holds of every event holds of events in turn. -/
theorem Events.related {R : State → State → Prop} (hrefl : ∀ s, R s s) (htrans : ∀ {s t u}, R s t → R t u → R s u)
    (hR : ∀ {s t}, Event s t → R s t) {s t : State} (h : Events s t) : R s t := by
  induction h with
  | refl => exact hrefl s
  | tail _ hlast ih => exact htrans ih (hR hlast)

/-! ## A millisecond -/

theorem timerExpiry_event (s : State) (u : TimerId) : Event s (s.timerExpiry u) := by
  cases u with
  | command => exact .commandAbsent s
  | slot i => exact .slotAbsent s i
  | progress => exact .noProgress s
  | settle => exact .settleOver s
  | status => exact .status s

theorem takeIfDue_events (s : State) (u : TimerId) : Events s (s.takeIfDue u) := by
  unfold State.takeIfDue
  split
  · exact .single (timerExpiry_event s u)
  · exact .refl

theorem foldl_events {α : Type} {f : State → α → State} (hf : ∀ s x, Events s (f s x)) (l : List α) (s : State) :
    Events s (l.foldl f s) := by
  induction l generalizing s with
  | nil => exact .refl
  | cons x xs ih => exact (hf s x).trans (ih (f s x))

theorem tick_events (s : State) : Events s s.tick :=
  .head (.millisecond s) (foldl_events takeIfDue_events _ _)

/-! ## A frame that arrives -/

theorem takeMapping_events (data : List Byte) (s : State) (x : Mapping) : Events s (s.takeMapping data x) := by
  unfold State.takeMapping
  split_ifs
  · exact .refl
  · exact .single (.report s _ (by decide))
  · exact .single (.sample s _ _)

theorem takeSamples_events (s : State) (e : RouteEntry) (data : List Byte) : Events s (s.takeSamples e data) :=
  foldl_events (takeMapping_events data) _ s

theorem takeMapping_frame (data : List Byte) (s : State) (x : Mapping) :
    unchangedExcept slotBlocks s (s.takeMapping data x) := by
  unfold State.takeMapping
  split_ifs
  · exact unchangedExcept_refl _ s
  · exact unchangedExcept_mono (by simp) (record_frame s _)
  · exact takeSample_frame s _ _

theorem takeSamples_frame (s : State) (e : RouteEntry) (data : List Byte) :
    unchangedExcept slotBlocks s (s.takeSamples e data) := by
  unfold State.takeSamples
  simp only [List.foldl_cons, List.foldl_nil]
  exact unchangedExcept_trans (unchangedExcept_trans (unchangedExcept_trans (takeMapping_frame _ _ _)
    (takeMapping_frame _ _ _)) (takeMapping_frame _ _ _)) (takeMapping_frame _ _ _)

theorem routeFrame_events (s : State) (port : PortId) (f : Frame) (hf : isOwnIdent s.node f.ident = false) :
    Events s (s.routeFrame port f) := by
  have hforward : Events s (s.forward port f) := .single (.forward s port f hf)
  unfold State.routeFrame
  split
  · exact hforward
  · rename_i e _
    split
    · exact hforward
    · exact hforward
    · exact .refl
    · have hnode : (s.takeSamples e f.data).node = s.node := (takeSamples_frame s e f.data).2 .node (by decide)
      exact (takeSamples_events s e f.data).tail (.forward _ port f (by rw [hnode]; exact hf))

/-- What a frame's arrival can be (R3). -/
theorem arrive_cases (s : State) (port : PortId) (f : Frame) :
    (port = .cab ∧ s.arrive port f = s.takeCommand f.data) ∨
    (∃ m, port = .cab ∧ s.arrive port f = s.takeRequestFrame m f.data) ∨
    s.arrive port f = s.record .idConflict ∨
    (isOwnIdent s.node f.ident = false ∧ s.arrive port f = s.routeFrame port f) := by
  unfold State.arrive
  split
  · cases port
    · exact .inl ⟨rfl, rfl⟩
    · exact .inr (.inr (.inl rfl))
  · rename_i hcommand
    split
    · rename_i m _
      cases port
      · exact .inr (.inl ⟨m, rfl, rfl⟩)
      · exact .inr (.inr (.inl rfl))
    · rename_i hmanager
      split
      · exact .inr (.inr (.inl rfl))
      · rename_i houtput
        exact .inr (.inr (.inr ⟨by simp [isOwnIdent, hcommand, hmanager, houtput], rfl⟩))

/-! ## Requests -/

theorem serveWrite_effect (s : State) (m : Manager) (space : Byte) (item value : Word) :
    Effect s (s.serveWrite m space item value).state := by
  have hbank : ∀ bank i, Effect s (s.writeBankItem m bank i value).state := fun bank i => by
    unfold State.writeBankItem
    split_ifs with hactive hpending
    · exact .none s
    · exact .none s
    · exact .writeBank s m bank i value hactive (Bool.eq_false_iff.2 hpending)
  unfold State.serveWrite
  split
  · exact .none s
  split
  · exact .none s
  split
  · exact hbank _ _
  · exact hbank _ _
  · unfold State.writeMapItem
    split
    · exact .none s
    · rename_i hm
      exact .writeMap s _ value hm
  · unfold State.writeSignalItem
    split
    · rename_i ht
      exact .writeSignal s _ _ _ ht
    · exact .none s
  · split
    · exact .none s
    unfold State.writeRouteItem
    dsimp only
    split
    · exact .none s
    · rename_i e he
      split
      · exact .none s
      · rename_i hfree
        exact .writeRoute s _ _ _ he hfree
  · unfold State.writeLinkItem
    split_ifs <;> first | exact .none s | exact .writeLink s _
  · exact .none s

theorem serveSwitch_effect (s : State) (m : Manager) : Effect s (s.serveSwitch m).state := by
  unfold State.serveSwitch
  split
  · exact .none s
  rename_i hholder
  split
  · exact .none s
  rename_i hpending
  split
  · exact .none s
  · rename_i hv
    split
    · rename_i hc
      refine .switchWaits s ?_ hv hc
      cases hr : s.reservation
      · simp [State.isHolder, hr] at hholder
      · rfl
    · exact .switchActs s (Bool.eq_false_iff.2 hpending) hv

theorem serveAck_effect (s : State) (hl : notLockedOut s) (code : Byte) : Effect s (s.serveAck code).state := by
  unfold State.serveAck
  split
  · exact .none s
  split_ifs with hh ha
  · exact .none s
  · exact .none s
  · exact .ack s _ hl (by simpa using hh) (Bool.eq_false_iff.2 ha)

theorem serve_effect (s : State) (hl : notLockedOut s) (m : Manager) (r : Request) : Effect s (s.serve m r).state := by
  cases r with
  | read space item =>
    simp only [State.serve, State.serveRead]
    split
    · exact .none s
    · split <;> exact .none s
  | write space item value => exact serveWrite_effect s m space item value
  | openBank bank =>
    simp only [State.serve, State.serveOpen]
    split
    · exact .none s
    · split_ifs with hp ha
      · exact .none s
      · exact .none s
      · exact .openBank s _ (Bool.eq_false_iff.2 hp) ha
  | switch => exact serveSwitch_effect s m
  | cancel =>
    simp only [State.serve, State.serveCancel]
    split_ifs
    · exact .none s
    · exact .cancel s
    · exact .none s
  | commitMap =>
    simp only [State.serve, State.serveCommit]
    split
    · exact .none s
    · rename_i hm
      split
      · exact .none s
      · rename_i hv
        exact .commitMap s hm hv
  | ack cause => exact serveAck_effect s hl cause
  | faultRead part =>
    simp only [State.serve, State.serveFaultRead]
    split
    · exact .none s
    · split <;> exact .none s
  | biteRead index part =>
    simp only [State.serve, State.serveBiteRead]
    split
    · exact .none s
    · split <;> exact .none s
  | channelMode channel mode =>
    simp only [State.serve, State.serveChannelMode]
    split
    · exact .channelMode s _ _
    · exact .none s
  | linkMode mode =>
    simp only [State.serve, State.serveLinkMode]
    split
    · exact .none s
    · split_ifs with hsame hbusy
      · exact .none s
      · exact .none s
      · exact .linkMode s _ (not_not.1 hbusy)
  | restart => exact .restart s hl

theorem serve_read_state (s : State) (m : Manager) {r : Request} (hr : isReadRequest r = true) :
    (s.serve m r).state = s := by
  cases r with
  | read space item =>
    simp only [State.serve, State.serveRead]
    split
    · rfl
    · split <;> rfl
  | faultRead part =>
    simp only [State.serve, State.serveFaultRead]
    split
    · rfl
    · split <;> rfl
  | biteRead index part =>
    simp only [State.serve, State.serveBiteRead]
    split
    · rfl
    · split <;> rfl
  | write | openBank | switch | cancel | commitMap | ack | channelMode | linkMode | restart => cases hr

theorem guarded_effect (s : State) (m : Manager) (r : Request) : Effect s (s.guarded m r).state := by
  cases hl : s.faults.lockout
  · rw [guarded_unlocked hl]
    exact serve_effect s hl m r
  · cases hr : isReadRequest r
    · rw [guarded_locked hl m hr]
      exact .none s
    · rw [guarded_read s m hr, serve_read_state s m hr]
      exact .none s

/-- The data of every reply fits the six bytes of Table 11-3. -/
theorem guarded_reply_length (s : State) (m : Manager) (r : Request) : (s.guarded m r).reply.data.length ≤ 6 := by
  have hnone : ([] : List Byte).length ≤ 6 := Nat.zero_le 6
  unfold State.guarded
  split
  · exact hnone
  cases r with
  | read space item =>
    simp only [State.serve, State.serveRead]
    split
    · exact hnone
    · split
      · exact hnone
      · exact (by decide : 2 ≤ 6)
  | write space item value =>
    simp only [State.serve, State.serveWrite, State.writeBankItem, State.writeMapItem, State.writeSignalItem,
      State.writeRouteItem, State.writeLinkItem]
    repeat' split
    all_goals exact hnone
  | openBank bank =>
    simp only [State.serve, State.serveOpen]
    repeat' split
    all_goals exact hnone
  | switch =>
    simp only [State.serve, State.serveSwitch]
    repeat' split
    all_goals first | exact hnone | exact (by decide : 2 ≤ 6)
  | cancel =>
    simp only [State.serve, State.serveCancel]
    repeat' split
    all_goals exact hnone
  | commitMap =>
    simp only [State.serve, State.serveCommit]
    repeat' split
    all_goals first | exact hnone | exact (by decide : 3 ≤ 6)
  | ack cause =>
    simp only [State.serve, State.serveAck]
    repeat' split
    all_goals exact hnone
  | faultRead part =>
    simp only [State.serve, State.serveFaultRead]
    split
    · exact hnone
    · split
      · exact hnone
      · simp only [State.respond, FaultRecord.part]
        split <;> exact le_rfl
  | biteRead index part =>
    simp only [State.serve, State.serveBiteRead]
    split
    · exact hnone
    · split
      · exact hnone
      · simp only [State.respond, BiteRecord.part]
        split <;> exact le_rfl
  | channelMode channel mode =>
    simp only [State.serve, State.serveChannelMode]
    split
    · exact hnone
    · exact hnone
  | linkMode mode =>
    simp only [State.serve, State.serveLinkMode]
    repeat' split
    all_goals exact hnone
  | restart => exact hnone

/-! ## The step -/

/-- What a meaning other than the full reset can be: a drive command of 8 bytes, the effect of a request with its reply, or
events in turn. -/
inductive Meaning : State → State → Prop
  | command (s : State) (data : List Byte) (hd : 8 ≤ data.length) :
      Meaning s ((s.handedOff data).conditionCommand (commandRequests data) (commandSeq data))
  | request {s u : State} (h : Effect s u) (m : Manager) (code : Nat) (tag : Byte) (r : Reply) (hr : r.data.length ≤ 6) :
      Meaning s (u.sendReply m code tag r)
  | events {s t : State} (h : Events s t) : Meaning s t

theorem Event.meaning {s t : State} (h : Event s t) : Meaning s t := .events (.single h)

theorem takeCommand_meaning (s : State) (data : List Byte) : Meaning s (s.takeCommand data) := by
  unfold State.takeCommand
  split
  · exact (Event.report s _ (by decide)).meaning
  · rename_i hlen
    exact .command s data (Nat.not_lt.1 hlen)

theorem takeRequest_meaning (s : State) (m : Manager) (tag : Byte) (r : Request) : Meaning s (s.takeRequest m tag r) :=
  .request (guarded_effect s m r) m r.code tag _ (guarded_reply_length s m r)

theorem takeRequestFrame_meaning (s : State) (m : Manager) (data : List Byte) : Meaning s (s.takeRequestFrame m data) := by
  unfold State.takeRequestFrame
  split
  · exact takeRequest_meaning s m _ _
  · exact .request (.none s) m _ _ _ (Nat.zero_le 6)

theorem arrive_meaning (s : State) (port : PortId) (f : Frame) : Meaning s (s.arrive port f) := by
  rcases arrive_cases s port f with ⟨_, h⟩ | ⟨m, _, h⟩ | h | ⟨hf, h⟩ <;> rw [h]
  · exact takeCommand_meaning s _
  · exact takeRequestFrame_meaning s m _
  · exact (Event.report s _ (by decide)).meaning
  · exact .events (routeFrame_events s port f hf)

/-- What a command's meaning can be. -/
theorem exec_cases {c : Instr} {s t : State} (h : exec c s = .next t) :
    (∃ straps stop, c = .fullReset straps stop ∧ t = (State.fullReset s.pending straps stop).reportStopLine) ∨
      Meaning s t := by
  cases c with
  | fullReset straps stop => cases h; exact .inl ⟨straps, stop, rfl, rfl⟩
  | frameArrival port ident data => cases h; exact .inr (arrive_meaning s port _)
  | driveCommand data => cases h; exact .inr (takeCommand_meaning s data)
  | transmitCompletion port => cases h; exact .inr (Event.complete s port).meaning
  | transmitFailure port =>
    simp only [exec, execTransmitFailure] at h
    split at h
    · cases h; exact .inr (.events .refl)
    · rename_i honline
      cases h; exact .inr (Event.fail s port honline).meaning
  | busRecovered port => cases h; exact .inr (Event.recover s port).meaning
  | commandAbsenceExpiry => cases h; exact .inr (Event.commandAbsent s).meaning
  | absenceTimerExpiry i => cases h; exact .inr (Event.slotAbsent s i).meaning
  | noProgressExpiry => cases h; exact .inr (Event.noProgress s).meaning
  | settleTimerExpiry => cases h; exact .inr (Event.settleOver s).meaning
  | statusTimerExpiry => cases h; exact .inr (Event.status s).meaning
  | stopAsserted => cases h; exact .inr (Event.stopAsserted s).meaning
  | stopReleased => cases h; exact .inr (Event.stopReleased s).meaning
  | read | write | writeBank | writeMap | writeSignal | writeRoute | writeLink | openBank | switch | cancel | commitMap
  | ack | faultRead | biteRead | channelMode | linkMode | restart => cases h; exact .inr (takeRequest_meaning s _ _ _)

/-- What a step can be: a full reset, or a meaning on the state with fewer commands waiting. -/
theorem step_cases {s t : State} (h : step s = .next t) :
    (∃ straps stop rest, s.pending = .fullReset straps stop :: rest ∧
      t = (State.fullReset rest straps stop).reportStopLine) ∨
      ∃ rest, Meaning (s.withPending rest) t := by
  unfold step at h
  split at h
  · rename_i hp
    cases h
    exact .inr ⟨s.pending, .events (tick_events s)⟩
  · rename_i c rest hp
    rcases exec_cases h with ⟨straps, stop, rfl, ht⟩ | hmeaning
    · exact .inl ⟨straps, stop, rest, hp, ht⟩
    · exact .inr ⟨rest, hmeaning⟩

/-- A reflexive and transitive relation of the states holds over every step but a full reset if it holds over the taken
command, every effect of a request and every event. -/
theorem step_related {R : State → State → Prop} (hrefl : ∀ s, R s s) (htrans : ∀ {s t u}, R s t → R t u → R s u)
    (hcommand : ∀ s data, 8 ≤ data.length →
      R s ((s.handedOff data).conditionCommand (commandRequests data) (commandSeq data)))
    (heffect : ∀ {s t}, Effect s t → R s t) (hevent : ∀ {s t}, Event s t → R s t) {s t : State}
    (h : step s = .next t) :
    (∃ straps stop rest, s.pending = .fullReset straps stop :: rest ∧
      t = (State.fullReset rest straps stop).reportStopLine) ∨ R s t := by
  refine (step_cases h).imp_right fun ⟨rest, hmeaning⟩ => htrans (hevent (.wait s rest)) ?_
  cases hmeaning with
  | command data hd => exact hcommand _ data hd
  | request heff m code tag r hr => exact htrans (heffect heff) (hevent (.reply _ m code tag r hr))
  | events hchain => exact hchain.related hrefl htrans hevent

/-- A predicate of the state is kept by every step if the full reset gives it and the taken command, every effect of a
request and every event keep it. -/
theorem step_keeps {P : State → Prop}
    (hreset : ∀ rest straps stop, P (State.fullReset rest straps stop).reportStopLine)
    (hcommand : ∀ s data, 8 ≤ data.length → P s →
      P ((s.handedOff data).conditionCommand (commandRequests data) (commandSeq data)))
    (heffect : ∀ {s t}, Effect s t → P s → P t) (hevent : ∀ {s t}, Event s t → P s → P t) {s t : State}
    (h : step s = .next t) (hs : P s) : P t := by
  rcases step_related (R := fun s t => P s → P t) (fun _ => id) (fun h₁ h₂ => h₂ ∘ h₁) hcommand heffect hevent h with
    ⟨straps, stop, rest, _, rfl⟩ | hkept
  · exact hreset rest straps stop
  · exact hkept hs

end Sys2Proof.Machine
end

section
/-! What reports do to the Fault Monitor, and what the work of the Bite Engine does to the banks: the pending switch takes
effect at most once, with its report (R126, R140, R141, R159, R160). -/

namespace Sys2Proof.Machine

/-! ## One report (R159, R160) -/

/-- The monitor after a report whose record, if it is new, is r. -/
def FaultMonitor.noted (m : FaultMonitor) (r : FaultRecord) : FaultMonitor :=
  { m with queue := if m.holds r.cause then raiseCount r.cause m.queue else appendRecord m.queue r }

theorem record_faults (s : State) (c : Cause) : (s.record c).faults = s.faults.noted (s.makeRecord c) := rfl

theorem makeRecord_recordOk (s : State) (c : Cause) : recordOk (s.makeRecord c) :=
  ⟨le_rfl, (by decide : 1 ≤ 255), Nat.mod_lt _ (by decide)⟩

section
variable {m : FaultMonitor} {r : FaultRecord} {c : Cause}

@[simp] theorem noted_tripPending (m : FaultMonitor) (r : FaultRecord) : (m.noted r).tripPending = m.tripPending := rfl

@[simp] theorem noted_lockout (m : FaultMonitor) (r : FaultRecord) : (m.noted r).lockout = m.lockout := rfl

theorem noted_queue_of_holds (h : m.holds r.cause = true) : (m.noted r).queue = raiseCount r.cause m.queue := if_pos h

theorem noted_queue_of_new (h : m.holds r.cause = false) : (m.noted r).queue = appendRecord m.queue r := by
  simp [FaultMonitor.noted, h]

theorem holds_iff (m : FaultMonitor) (c : Cause) : m.holds c = true ↔ c ∈ m.queue.map FaultRecord.cause := by
  simp [FaultMonitor.holds]

theorem evictOne_length {q : List FaultRecord} (h : ∃ x ∈ q, x.cls ≠ .t) : (evictOne q).length + 1 = q.length := by
  have hdrop : ∀ k, hasClass k q = true → (dropOldest k q).length + 1 = q.length := fun k hk => by
    obtain ⟨x, hx, hxk⟩ := List.any_eq_true.1 hk
    have hpos : 0 < q.length := List.length_pos_of_mem hx
    rw [dropOldest, List.length_eraseP_of_mem hx (by simpa using hxk)]
    omega
  rcases evictOne_cases q with ⟨hn, he⟩ | ⟨_, hd, he⟩ | ⟨hn, hd, he⟩ <;> rw [he]
  · exact hdrop _ hn
  · exact hdrop _ hd
  · refine hdrop _ ?_
    obtain ⟨x, hx, hxt⟩ := h
    simp only [hasClass, List.any_eq_false, decide_eq_true_eq] at hn hd
    refine List.any_eq_true.2 ⟨x, hx, ?_⟩
    have hxn := hn x hx
    have hxd := hd x hx
    revert hxt hxn hxd
    cases x.cls <;> simp

theorem noted_holds_self (m : FaultMonitor) (r : FaultRecord) : (m.noted r).holds r.cause = true := by
  cases h : m.holds r.cause
  · simp [holds_iff, noted_queue_of_new h, appendRecord]
  · rw [holds_iff, noted_queue_of_holds h, raiseCount_causes, ← holds_iff, h]

/-- No report brings in another cause. -/
theorem holds_of_noted (hc : c ≠ r.cause) (h : (m.noted r).holds c = true) : m.holds c = true := by
  cases hr : m.holds r.cause
  · rw [holds_iff, noted_queue_of_new hr] at h
    rw [holds_iff]
    simp only [appendRecord, List.map_append, List.map_cons, List.map_nil, List.mem_append, List.mem_singleton, hc,
      or_false] at h
    split at h
    · exact ((evictOne_sublist _).map _).subset h
    · exact h
  · rwa [holds_iff, noted_queue_of_holds hr, raiseCount_causes, ← holds_iff] at h

/-- A report with room in the queue evicts nothing. -/
theorem noted_holds_of_room (hroom : m.queue.length < 16) (h : m.holds c = true) : (m.noted r).holds c = true := by
  cases hr : m.holds r.cause
  · rw [holds_iff] at h
    rw [holds_iff, noted_queue_of_new hr, appendRecord, if_neg (by simpa [Config.faultQueuePlaces] using hroom)]
    simp [h]
  · rwa [holds_iff, noted_queue_of_holds hr, raiseCount_causes, ← holds_iff]

/-- A record of class T is never evicted (R160). -/
theorem noted_holds_trip (hc : c.cls = .t) (h : m.holds c = true) : (m.noted r).holds c = true := by
  cases hr : m.holds r.cause
  · rw [holds_iff] at h
    obtain ⟨x, hx, rfl⟩ := List.mem_map.1 h
    have hkept : x ∈ (if Config.faultQueuePlaces ≤ m.queue.length then evictOne m.queue else m.queue) := by
      split
      · exact evictOne_keeps_trip hx hc
      · exact hx
    rw [holds_iff, noted_queue_of_new hr, appendRecord, List.map_append]
    exact List.mem_append_left _ (List.mem_map_of_mem hkept)
  · rwa [holds_iff, noted_queue_of_holds hr, raiseCount_causes, ← holds_iff]

theorem noted_length_le (m : FaultMonitor) (r : FaultRecord) : (m.noted r).queue.length ≤ m.queue.length + 1 := by
  cases h : m.holds r.cause
  · rw [noted_queue_of_new h, appendRecord, List.length_append, List.length_singleton]
    split
    · exact Nat.succ_le_succ (evictOne_sublist _).length_le
    · exact le_rfl
  · rw [noted_queue_of_holds h, raiseCount, List.length_map]
    exact Nat.le_succ _

end

/-! ## The queue in order (R159, R160) -/

/-- At most 16 records of different causes, each within its ranges. -/
def queueOk (q : List FaultRecord) : Prop :=
  q.length ≤ 16 ∧ (q.map FaultRecord.cause).Nodup ∧ ∀ r ∈ q, recordOk r

theorem cls_t_iff (c : Cause) : c.cls = .t ↔ c = .stopLine ∨ c = .driveLinkDown := by cases c <;> simp [Cause.cls]

/-- A full queue of different causes holds a record that R160 lets go: only two causes are of class T. -/
theorem exists_not_trip_of_full {q : List FaultRecord} (hnodup : (q.map FaultRecord.cause).Nodup) (hfull : 3 ≤ q.length) :
    ∃ x ∈ q, x.cls ≠ .t := by
  by_contra hall
  push Not at hall
  have hsub : q.map FaultRecord.cause ⊆ [Cause.stopLine, .driveLinkDown] := fun c hc => by
    obtain ⟨x, hx, rfl⟩ := List.mem_map.1 hc
    simpa using (cls_t_iff x.cause).1 (hall x hx)
  have hle := (hnodup.subperm hsub).length_le
  simp only [List.length_map, List.length_cons, List.length_nil] at hle
  omega

theorem queueOk_of_sublist {p q : List FaultRecord} (h : p.Sublist q) (hq : queueOk q) : queueOk p := by
  obtain ⟨hlen, hnodup, hrec⟩ := hq
  exact ⟨h.length_le.trans hlen, hnodup.sublist (h.map _), fun r hr => hrec r (h.subset hr)⟩

theorem queueOk_raiseCount {q : List FaultRecord} (c : Cause) (hq : queueOk q) : queueOk (raiseCount c q) := by
  obtain ⟨hlen, hnodup, hrec⟩ := hq
  refine ⟨by simpa [raiseCount] using hlen, by rwa [raiseCount_causes], fun r hr => ?_⟩
  obtain ⟨x, hx, rfl⟩ := List.mem_map.1 hr
  obtain ⟨hlo, hhi, htime⟩ := hrec x hx
  split
  · exact ⟨by simp only [bump]; omega, by simp only [bump]; omega, htime⟩
  · exact ⟨hlo, hhi, htime⟩

theorem queueOk_appendRecord {q : List FaultRecord} {r : FaultRecord} (hq : queueOk q)
    (hnew : r.cause ∉ q.map FaultRecord.cause) (hr : recordOk r) : queueOk (appendRecord q r) := by
  have hsub : (if Config.faultQueuePlaces ≤ q.length then evictOne q else q).Sublist q := by
    split
    · exact evictOne_sublist q
    · exact List.Sublist.refl q
  have hshort : (if Config.faultQueuePlaces ≤ q.length then evictOne q else q).length ≤ 15 := by
    obtain ⟨hlen, hnodup, -⟩ := hq
    split
    · rename_i hfull
      simp only [Config.faultQueuePlaces] at hfull
      have := evictOne_length (exists_not_trip_of_full hnodup (by omega))
      omega
    · rename_i hroom
      simp only [Config.faultQueuePlaces] at hroom
      omega
  obtain ⟨-, hnodup, hrec⟩ := queueOk_of_sublist hsub hq
  unfold appendRecord
  refine ⟨?_, ?_, fun x hx => ?_⟩
  · rw [List.length_append, List.length_singleton]
    omega
  · rw [List.map_append]
    refine hnodup.append (by simp) ?_
    simpa using fun (x : FaultRecord) hx (hxr : x.cause = r.cause) => hnew (hxr ▸ List.mem_map_of_mem (hsub.subset hx))
  · rcases List.mem_append.1 hx with hx | hx
    · exact hrec x hx
    · rwa [List.mem_singleton.1 hx]

theorem queueOk_noted {m : FaultMonitor} {r : FaultRecord} (hq : queueOk m.queue) (hr : recordOk r) :
    queueOk (m.noted r).queue := by
  cases h : m.holds r.cause
  · rw [noted_queue_of_new h]
    refine queueOk_appendRecord hq (fun hmem => ?_) hr
    rw [← holds_iff, h] at hmem
    cases hmem
  · rw [noted_queue_of_holds h]
    exact queueOk_raiseCount _ hq

/-! ## Reports in turn, none of class T -/

/-- At most n reports in turn, none of class T. -/
inductive Noted : Nat → FaultMonitor → FaultMonitor → Prop
  | none (n : Nat) (m : FaultMonitor) : Noted n m m
  | one {n : Nat} {m k : FaultMonitor} (h : Noted n m k) (r : FaultRecord) (hc : r.cls ≠ .t) (hr : recordOk r) :
      Noted (n + 1) m (k.noted r)

theorem Noted.mono {a b : Nat} {m k : FaultMonitor} (h : Noted a m k) (hab : a ≤ b) : Noted b m k := by
  induction h generalizing b with
  | none => exact .none b _
  | one _ r hc hr ih =>
    obtain ⟨b, rfl⟩ := Nat.exists_eq_succ_of_ne_zero (by omega : b ≠ 0)
    exact .one (ih (by omega)) r hc hr

theorem Noted.trans {a b : Nat} {m k l : FaultMonitor} (h₁ : Noted a m k) (h₂ : Noted b k l) : Noted (a + b) m l := by
  induction h₂ with
  | none => exact h₁.mono (by omega)
  | one _ r hc hr ih => exact .one (ih h₁) r hc hr

theorem noted_record (s : State) {c : Cause} (hc : c.cls ≠ .t) : Noted 1 s.faults (s.record c).faults :=
  .one (.none 0 _) (s.makeRecord c) hc (makeRecord_recordOk s c)

/-- A report made of a state with the same monitor. -/
theorem noted_record_of_same {s u : State} (hu : u.faults = s.faults) {c : Cause} (hc : c.cls ≠ .t) :
    Noted 1 s.faults (u.record c).faults := hu ▸ noted_record u hc

section
variable {n : Nat} {m k : FaultMonitor}

theorem Noted.tripPending (h : Noted n m k) : k.tripPending = m.tripPending := by
  induction h with
  | none => rfl
  | one _ r hc hr ih => simpa using ih

theorem Noted.lockout (h : Noted n m k) : k.lockout = m.lockout := by
  induction h with
  | none => rfl
  | one _ r hc hr ih => simpa using ih

theorem Noted.queueOk (h : Noted n m k) (hm : queueOk m.queue) : Sys2Proof.Machine.queueOk k.queue := by
  induction h with
  | none => exact hm
  | one _ r hc hr ih => exact queueOk_noted (ih hm) hr

theorem Noted.length_le (h : Noted n m k) : k.queue.length ≤ m.queue.length + n := by
  induction h with
  | none => exact Nat.le_add_right _ _
  | one _ r hc hr ih => exact (noted_length_le _ r).trans (by omega)

theorem Noted.holds_trip (h : Noted n m k) {c : Cause} (hc : c.cls = .t) : k.holds c = m.holds c := by
  induction h with
  | none => rfl
  | one _ r hcr _ ih =>
    have hne : c ≠ r.cause := fun he => hcr (by rw [FaultRecord.cls, ← he, hc])
    rw [← ih]
    exact Bool.eq_iff_iff.2 ⟨holds_of_noted hne, noted_holds_trip hc⟩

/-- Where the queue has room for all the reports, what is held stays held. -/
theorem Noted.holds_of_room (h : Noted n m k) (hroom : m.queue.length + n ≤ 16) {c : Cause} (hc : m.holds c = true) :
    k.holds c = true := by
  induction h with
  | none => exact hc
  | one h r _ _ ih =>
    have := h.length_le
    exact noted_holds_of_room (by omega) (ih (by omega) hc)

end

/-! ## The work of the Bite Engine on the banks -/

/-- The banks, the reservation and the Fault Monitor are as they were, or the pending switch has taken effect, with its
report (R126, R140, R141). -/
def bankWork (s t : State) : Prop :=
  (t.banks = s.banks ∧ t.reservation = s.reservation ∧ t.faults = s.faults) ∨
  (s.banks.pendingSwitch = true ∧
    t.banks = { s.banks with active := otherBank s.banks.active, activeValid := true, pendingSwitch := false } ∧
    t.reservation = none ∧ ∃ u : State, u.faults = s.faults ∧ t.faults = (u.record .bankSwitched).faults)

theorem bankWork_refl (s : State) : bankWork s s := .inl ⟨rfl, rfl, rfl⟩

/-- A switch that took effect leaves none pending, so work in turn applies at most one. -/
theorem bankWork_trans {s t u : State} (h₁ : bankWork s t) (h₂ : bankWork t u) : bankWork s u := by
  rcases h₁ with ⟨hb, hr, hf⟩ | ⟨hp, hb, hr, w, hw, hf⟩
  · rcases h₂ with ⟨hb', hr', hf'⟩ | ⟨hp', hb', hr', w', hw', hf'⟩
    · exact .inl ⟨hb'.trans hb, hr'.trans hr, hf'.trans hf⟩
    · exact .inr ⟨hb ▸ hp', hb ▸ hb', hr', w', hw'.trans hf, hf'⟩
  · rcases h₂ with ⟨hb', hr', hf'⟩ | ⟨hp', _⟩
    · exact .inr ⟨hp, hb'.trans hb, hr'.trans hr, w, hw, hf'.trans hf⟩
    · rw [hb] at hp'
      cases hp'

theorem bankWork_noted {s t : State} (h : bankWork s t) : Noted 1 s.faults t.faults := by
  rcases h with ⟨_, _, hf⟩ | ⟨_, _, _, u, hu, hf⟩
  · rw [hf]; exact .none 1 _
  · rw [hf, ← hu]; exact noted_record u (by decide)

theorem bankWork_of_no_pending {s t : State} (h : bankWork s t) (hp : s.banks.pendingSwitch = false) :
    t.banks = s.banks ∧ t.reservation = s.reservation ∧ t.faults = s.faults := by
  rcases h with h | ⟨hp', _⟩
  · exact h
  · rw [hp] at hp'; cases hp'

theorem withBite_bankWork (s : State) (x : BiteEngine) : bankWork s (s.withBite x) := .inl ⟨rfl, rfl, rfl⟩

theorem reportCutExit_bankWork (s : State) : bankWork s s.reportCutExit := by
  unfold State.reportCutExit
  split
  · rename_i hp
    exact .inr ⟨hp, rfl, rfl, (s.withBanks { s.banks with
      active := otherBank s.banks.active, activeValid := true, pendingSwitch := false }).withReservation none, rfl, rfl⟩
  · exact bankWork_refl s

theorem biteLeave_bankWork (s : State) (n : BiteState) : bankWork s (s.biteLeave n) := by
  unfold State.biteLeave
  dsimp only
  split
  · exact bankWork_trans (withBite_bankWork s _) (reportCutExit_bankWork _)
  · exact withBite_bankWork s _

theorem mapContext_bankWork (s : State) (f : BiteContext → BiteContext) : bankWork s (s.mapContext f) :=
  withBite_bankWork s _

theorem biteEnd_bankWork (s : State) (o : BiteOutcome) : bankWork s (s.biteEnd o) :=
  bankWork_trans (biteLeave_bankWork s _) (withBite_bankWork _ _)

theorem enterCut_bankWork (s : State) : bankWork s s.enterCut :=
  bankWork_trans (biteLeave_bankWork s _) (withBite_bankWork _ _)

theorem engageCheck_bankWork (s : State) : bankWork s s.engageCheck := by
  unfold State.engageCheck
  split
  · exact enterCut_bankWork s
  · exact bankWork_refl s

theorem enterEngage_bankWork (s : State) : bankWork s s.enterEngage :=
  bankWork_trans (biteLeave_bankWork s _) (engageCheck_bankWork _)

theorem enterJammed_bankWork (s : State) (c : JamCause) : bankWork s (s.enterJammed c) :=
  bankWork_trans (bankWork_trans (biteLeave_bankWork s _) (mapContext_bankWork _ _)) (withBite_bankWork _ _)

theorem enterRegrip_bankWork (s : State) : bankWork s s.enterRegrip :=
  bankWork_trans (biteLeave_bankWork s _) (mapContext_bankWork _ _)

theorem enterSettle_bankWork (s : State) : bankWork s s.enterSettle := by
  unfold State.enterSettle
  dsimp only
  split
  · exact bankWork_trans (biteLeave_bankWork s _) (biteEnd_bankWork _ _)
  · exact bankWork_trans (biteLeave_bankWork s _) (withBite_bankWork _ _)

theorem biteTrackerChange_bankWork (s : State) : bankWork s s.biteTrackerChange := by
  unfold State.biteTrackerChange
  split
  · split
    · exact engageCheck_bankWork s
    · split
      · exact bankWork_refl s
      · exact enterEngage_bankWork s
    all_goals exact bankWork_refl s
  · split
    all_goals first | exact enterJammed_bankWork s _ | exact bankWork_refl s

theorem biteHeadTest_bankWork (s : State) : bankWork s s.biteHeadTest := by
  unfold State.biteHeadTest
  split
  · split
    · exact enterRegrip_bankWork s
    · exact bankWork_refl s
  · split
    · exact enterEngage_bankWork s
    · exact bankWork_refl s
  all_goals exact bankWork_refl s

theorem biteDepth_bankWork (s : State) : bankWork s s.biteDepth := by
  unfold State.biteDepth
  split
  · dsimp only
    split_ifs
    · exact bankWork_trans (withBite_bankWork s _) (enterSettle_bankWork _)
    · exact bankWork_trans (withBite_bankWork s _) (withBite_bankWork _ _)
    · exact withBite_bankWork s _
  · exact bankWork_refl s

theorem biteSlotEvent_bankWork (s : State) (i : SlotId) (c : Bool) : bankWork s (s.biteSlotEvent i c) := by
  have hchange : bankWork s (if c = true then s.biteTrackerChange else s) := by
    split
    · exact biteTrackerChange_bankWork s
    · exact bankWork_refl s
  unfold State.biteSlotEvent
  dsimp only
  generalize (if c = true then s.biteTrackerChange else s) = u at hchange ⊢
  refine bankWork_trans hchange ?_
  split_ifs
  · exact mapContext_bankWork u _
  · exact mapContext_bankWork u _
  · exact biteHeadTest_bankWork u
  · exact biteDepth_bankWork u
  · exact bankWork_refl u

theorem biteOutsideAbort_bankWork (s : State) : bankWork s s.biteOutsideAbort := by
  unfold State.biteOutsideAbort
  split
  · exact bankWork_refl s
  · exact biteEnd_bankWork s _

/-- What an action does to the banks and the Fault Monitor: it is refused with its notice, or is the engine's work. -/
theorem biteAction_cases (s : State) (a : Action) :
    s.biteAction a = s.record .actionRefused ∨ bankWork s (s.biteAction a) := by
  cases a with
  | none => exact .inr (bankWork_refl s)
  | start =>
    simp only [State.biteAction, State.biteStart]
    split
    · exact .inr (bankWork_trans (withBite_bankWork s _) (engageCheck_bankWork _))
    · exact .inl rfl
  | abort =>
    simp only [State.biteAction, State.biteAbortAction]
    split
    · exact .inl rfl
    · exact .inr (biteEnd_bankWork s _)
    · exact .inr (biteEnd_bankWork s _)
    · exact .inr (biteEnd_bankWork s _)
    · split
      · exact .inr (biteEnd_bankWork s _)
      · exact .inr (bankWork_refl s)
    · exact .inr (biteEnd_bankWork s _)
  | resume =>
    simp only [State.biteAction, State.biteResume]
    split
    · exact .inr (enterEngage_bankWork s)
    · exact .inl rfl

/-! ## What the other shared operations report -/

theorem followChannel_noted (s : State) (c : Channel) (x : Int) : Noted 1 s.faults (s.followChannel c x).faults := by
  unfold State.followChannel
  dsimp only
  split
  · exact noted_record_of_same rfl (by simp [Cause.cls])
  · exact .none 1 _

theorem followFrame_noted (s : State) (sp : PerChannel Int) : Noted 3 s.faults (s.followFrame sp).faults :=
  ((followChannel_noted s _ _).trans (followChannel_noted _ _ _)).trans (followChannel_noted _ _ _)

theorem zeroFrame_noted (s : State) : Noted 3 s.faults s.zeroFrame.faults :=
  followFrame_noted ((s.queueDrive zeroSetpoints .zeroFrame s.lastSeq).withPrev zeroSetpoints) _

theorem goNeutral_noted (s : State) : Noted 4 s.faults s.goNeutral.faults :=
  (zeroFrame_noted s).trans (bankWork_noted (biteOutsideAbort_bankWork _))

theorem trackerLose_noted (s : State) (c : LossCause) : Noted 1 s.faults (s.trackerLose c).faults :=
  noted_record_of_same (u := s.withTracker { s.tracker with mode := .lost, cause := some c }) rfl (by decide)

theorem positionTests_noted (s : State) : Noted 1 s.faults s.positionTests.faults := by
  unfold State.positionTests State.trackerDistribute
  dsimp only
  split_ifs
  all_goals first
    | exact .none 1 _
    | exact trackerLose_noted s _

theorem trackerSlotEvent_noted (s : State) (i : SlotId) : Noted 1 s.faults (s.trackerSlotEvent i).faults := by
  unfold State.trackerSlotEvent
  split_ifs
  · exact positionTests_noted (s.withTracker { s.tracker with xm := s.extensionNow })
  · rw [(pressureUpdate_frame s).2 .faults (by decide)]
    exact .none 1 _
  · exact .none 1 _

theorem overloadTest_noted (s : State) : Noted 1 s.faults s.overloadTest.faults := by
  unfold State.overloadTest
  split_ifs
  · exact .none 1 _
  · exact noted_record_of_same rfl (by decide)
  · exact .none 1 _
  · exact .none 1 _

/-- A slot event makes at most two reports: the tracker has none where Channel Control has one. -/
theorem slotEvent_noted (s : State) (i : SlotId) : Noted 2 s.faults (s.slotEvent i).faults := by
  have hbite := bankWork_noted (biteSlotEvent_bankWork (s.trackerSlotEvent i) i
    (trackerChanged s.kelly.items s.tracker (s.trackerSlotEvent i).tracker))
  unfold State.slotEvent
  dsimp only
  split
  · rename_i hi
    have hnone : s.trackerSlotEvent i = s := by rcases hi with rfl | rfl <;> rfl
    rw [hnone] at hbite ⊢
    exact hbite.trans (overloadTest_noted _)
  · exact (trackerSlotEvent_noted s i).trans hbite

theorem storeSlot_noted (s : State) (i : SlotId) (r : Slot) : Noted 1 s.faults (s.storeSlot i r).faults := by
  unfold State.storeSlot
  dsimp only
  split
  · exact noted_record_of_same (u := s.withSignal (s.signal.withSlot i r)) rfl (by simp [Cause.cls])
  · exact .none 1 _

theorem deliverSlot_noted (s : State) (i : SlotId) : Noted 2 s.faults (s.deliverSlot i).faults := by
  have h := slotEvent_noted (s.refreshDerived i) i
  rwa [(refreshDerived_frame s i).2 .faults (by decide)] at h

theorem takeSample_noted (s : State) (i : SlotId) (v : Int) : Noted 3 s.faults (s.takeSample i v).faults :=
  (storeSlot_noted s i _).trans (deliverSlot_noted _ i)

theorem judgeSlot_noted (s : State) (i : SlotId) (r : Slot) : Noted 3 s.faults (s.judgeSlot i r).faults := by
  unfold State.judgeSlot
  dsimp only
  split
  · exact (storeSlot_noted s i r).mono (by decide)
  · exact (storeSlot_noted s i r).trans (deliverSlot_noted _ i)

theorem configureSlot_noted (s : State) (i : SlotId) (c : SlotConfig) :
    Noted 2 s.faults (s.configureSlot i c).faults := by
  unfold State.configureSlot
  dsimp only
  split
  · exact .none 2 _
  · exact deliverSlot_noted (s.withSignal (s.signal.withSlot i { s.signal.slot i with cfg := c })) i

theorem applyStall_noted (s : State) (o : StageOutput) : Noted 1 s.faults (s.applyStall o).faults := by
  unfold State.applyStall
  dsimp only
  split
  · exact noted_record_of_same rfl (by decide)
  · exact .none 1 _

theorem emit_noted (s : State) (sp : PerChannel Int) (f : LimitFlags) (q : Byte) :
    Noted 3 s.faults (s.emit sp f q).faults := by
  unfold State.emit
  split
  · exact followFrame_noted ((s.queueDrive sp f q).withPrev sp) sp
  · exact followFrame_noted (((s.queueCab .echo (setpointData sp f q)).queueDrive zeroSetpoints .zeroFrame q).withPrev sp) _

theorem conditionCommand_noted (s : State) (r : PerChannel Int) (q : Byte) :
    Noted 4 s.faults (s.conditionCommand r q).faults :=
  (applyStall_noted s _).trans (emit_noted _ _ _ _)

theorem handOff_noted (s : State) (n : Nat) : Noted 1 s.faults (s.handOff n).faults := by
  unfold State.handOff
  split
  · exact noted_record s (by decide)
  · rename_i a _
    split
    · rcases biteAction_cases s a with h | h
      · rw [h]; exact noted_record s (by decide)
      · exact bankWork_noted h
    · exact .none 1 _

theorem handedOff_noted (s : State) (data : List Byte) : Noted 1 s.faults (s.handedOff data).faults :=
  handOff_noted (s.acceptCommand data) _

theorem commandAbsent_noted (s : State) : Noted 5 s.faults s.commandAbsent.faults :=
  ((zeroFrame_noted (s.withCommandTimer s.link.cmdTimeout)).trans (noted_record _ (c := .cmdAbsent) (by decide))).trans
    (bankWork_noted (biteOutsideAbort_bankWork _))

theorem noProgress_noted (s : State) : Noted 2 s.faults s.noProgress.faults := by
  unfold State.noProgress
  split
  · exact (bankWork_noted (enterJammed_bankWork s _)).trans (noted_record _ (by decide))
  all_goals exact .none 2 _

theorem settleOver_noted (s : State) : Noted 1 s.faults s.settleOver.faults := by
  unfold State.settleOver
  split
  · exact bankWork_noted (biteEnd_bankWork s _)
  all_goals exact .none 1 _

end Sys2Proof.Machine
end

section
/-! Frames of the requests' effects, what of Channel Control stands through the monitors' work, and the Fault Monitor and
the banks over every step (R134, R136, R140, R159 to R163). -/

namespace Sys2Proof.Machine

/-! ## Frames of the requests' effects -/

theorem withStop_frame (s : State) (x : StopLevel) : unchangedExcept [.stopInput, .chan] s (s.withStop x) :=
  ⟨rfl, fun k hk => by cases k <;> first | rfl | simp at hk⟩

theorem countDown_frame (s : State) :
    unchangedExcept [.clock, .commandTimer, .statusTimer, .signal, .bite] s s.countDown :=
  ⟨rfl, fun x hb => by cases x <;> first | rfl | simp at hb⟩

theorem slotAbsent_frame (s : State) (i : SlotId) : unchangedExcept slotBlocks s (s.slotAbsent i) := judgeSlot_frame s i _

theorem afterBankWrite_frame (s : State) (m : Manager) (bank : BankId) :
    unchangedExcept [.reservation] s (s.afterBankWrite m bank) := by
  unfold State.afterBankWrite
  split
  · split
    · exact withReservation_frame s _
    · exact unchangedExcept_refl _ s
  · exact unchangedExcept_refl _ s

theorem deliverTrackerChange_frame (s : State) (x : TrackerMode) :
    unchangedExcept biteBlocks s (s.deliverTrackerChange x) := by
  unfold State.deliverTrackerChange
  split
  · exact unchangedExcept_refl _ s
  · exact biteTrackerChange_frame s

theorem refreshMapped_frame (s : State) (i : Nat) : unchangedExcept [.signal] s (s.refreshMapped i) := by
  unfold State.refreshMapped State.refreshTorque State.refreshCrowd
  split_ifs
  · exact withSignal_frame s _
  · exact withSignal_frame s _
  · exact unchangedExcept_refl _ s

/-- What a stored write to a SIGNAL item is: the slot judged anew for an enable, or configured (R24 to R26). -/
theorem writeSlotItem_cases {s t : State} {i : SlotId} {j : Nat} {v : Int} (h : s.writeSlotItem i j v = some t) :
    (∃ on, j = 3 ∧ v = boolCode on ∧ t = s.judgeSlot i ((s.signal.slot i).withAbsEn on)) ∨
    (∃ on, j = 4 ∧ v = boolCode on ∧ t = s.judgeSlot i ((s.signal.slot i).withRngEn on)) ∨
    ∃ c, (s.signal.slot i).cfg.edit i j v = some c ∧ t = s.configureSlot i c := by
  unfold State.writeSlotItem at h
  split_ifs at h with h3 hv0 hv1 h4 hw0 hw1
  · cases h; exact .inl ⟨false, h3, hv0, rfl⟩
  · cases h; exact .inl ⟨true, h3, hv1, rfl⟩
  · cases h; exact .inr (.inl ⟨false, h4, hw0, rfl⟩)
  · cases h; exact .inr (.inl ⟨true, h4, hw1, rfl⟩)
  · obtain ⟨c, hc, rfl⟩ := Option.map_eq_some_iff.1 h
    exact .inr (.inr ⟨c, hc, rfl⟩)

theorem writeSlotItem_frame {s t : State} {i : SlotId} {j : Nat} {v : Int} (h : s.writeSlotItem i j v = some t) :
    unchangedExcept slotBlocks s t := by
  rcases writeSlotItem_cases h with ⟨on, _, _, rfl⟩ | ⟨on, _, _, rfl⟩ | ⟨c, _, rfl⟩
  · exact judgeSlot_frame s i _
  · exact judgeSlot_frame s i _
  · exact configureSlot_frame s i c

theorem writeSlotItem_noted {s t : State} {i : SlotId} {j : Nat} {v : Int} (h : s.writeSlotItem i j v = some t) :
    Noted 3 s.faults t.faults := by
  rcases writeSlotItem_cases h with ⟨on, _, _, rfl⟩ | ⟨on, _, _, rfl⟩ | ⟨c, _, rfl⟩
  · exact judgeSlot_noted s i _
  · exact judgeSlot_noted s i _
  · exact (configureSlot_noted s i c).mono (by decide)

theorem deliverTrackerChange_bankWork (s : State) (x : TrackerMode) : bankWork s (s.deliverTrackerChange x) := by
  unfold State.deliverTrackerChange
  split
  · exact bankWork_refl s
  · exact biteTrackerChange_bankWork s

theorem commitMap_bankWork (s : State) : bankWork s s.commitMap :=
  deliverTrackerChange_bankWork ((s.withKelly { s.kelly with committed := true }).withTracker
    { s.tracker with mode := .seeking, cause := none }) _

theorem commitMap_frame (s : State) : unchangedExcept [.kelly, .tracker, .bite, .banks, .reservation, .faults] s s.commitMap :=
  unchangedExcept_comp (unchangedExcept_comp (n := [.kelly, .tracker]) (withKelly_frame s _) (withTracker_frame _ _)
    (by simp) (by simp)) (deliverTrackerChange_frame _ _) (by simp) (by simp)

/-- The state after a map write before its derived quantity is formed: the bite has been told (R38, R39). -/
theorem writeMap_bankWork (s : State) (k : KellyMap) (x : TrackerMode) (i : Nat) :
    bankWork s ((((s.withKelly k).withTracker s.tracker.unmap).deliverTrackerChange x).refreshMapped i) := by
  have h : bankWork s (((s.withKelly k).withTracker s.tracker.unmap).deliverTrackerChange x) :=
    deliverTrackerChange_bankWork ((s.withKelly k).withTracker s.tracker.unmap) x
  generalize ((s.withKelly k).withTracker s.tracker.unmap).deliverTrackerChange x = u at h ⊢
  have hframe := refreshMapped_frame u i
  unfold bankWork
  rw [hframe.2 .banks (by decide), hframe.2 .reservation (by decide), hframe.2 .faults (by decide)]
  exact h

theorem writeMap_frame (s : State) (k : KellyMap) (x : TrackerMode) (i : Nat) :
    unchangedExcept [.kelly, .tracker, .signal, .bite, .banks, .reservation, .faults] s
      ((((s.withKelly k).withTracker s.tracker.unmap).deliverTrackerChange x).refreshMapped i) :=
  unchangedExcept_comp (unchangedExcept_comp (n := [.kelly, .tracker, .bite, .banks, .reservation, .faults])
    (unchangedExcept_comp (n := [.kelly, .tracker]) (withKelly_frame s _) (withTracker_frame _ _)
    (by simp) (by simp)) (deliverTrackerChange_frame _ _) (by simp) (by simp)) (refreshMapped_frame _ _) (by simp) (by simp)

theorem clearLatch_frame (s : State) (c : Cause) : unchangedExcept [.chan] s (s.clearLatch c) := by
  unfold State.clearLatch
  split
  · exact withChan_frame s _
  · exact withChan_frame s _
  · exact unchangedExcept_refl _ s

theorem changeMode_frame (s : State) (c : Channel) (x : ChannelMode) :
    unchangedExcept [.cond, .chan] s (s.changeMode c x) :=
  unchangedExcept_comp (withCond_frame s _) (withChan_frame _ _) (by simp) (by simp)

theorem handedOff_frame (s : State) (data : List Byte) : unchangedExcept
    [.lastSeq, .commandTimer, .bite, .banks, .reservation, .faults, .cond] s (s.handedOff data) :=
  unchangedExcept_comp (acceptCommand_frame s data) (handOff_frame _ _) (by simp) (by simp)

theorem command_frame (s : State) (data : List Byte) (r : PerChannel Int) (q : Byte) :
    unchangedExcept commandBlocks s ((s.handedOff data).conditionCommand r q) :=
  unchangedExcept_comp (handedOff_frame s data) (conditionCommand_frame _ _ _) (by simp) (by simp)

/-! ## Channel Control through the monitors' work (R97) -/

theorem followChannel_chan (s : State) (c : Channel) (x : Int) :
    (s.followChannel c x).chan = s.chan.withFollow c (followTest s.banks.activeValid s.activeBank c x
      (s.effective (sensorSlot c)) (s.chan.follow.get c)).1 := by
  unfold State.followChannel
  dsimp only
  split <;> rfl

/-- The drive-following monitor changes the monitors alone. -/
theorem followFrame_chan (s : State) (sp : PerChannel Int) :
    (s.followFrame sp).chan = { s.chan with follow := (s.followFrame sp).chan.follow } := by
  unfold State.followFrame
  simp only [followChannel_chan, ChannelControl.withFollow]

theorem zeroFrame_chan (s : State) : s.zeroFrame.chan = { s.chan with follow := s.zeroFrame.chan.follow } :=
  followFrame_chan ((s.queueDrive zeroSetpoints .zeroFrame s.lastSeq).withPrev zeroSetpoints) _

theorem goNeutral_chan (s : State) : s.goNeutral.chan = { s.chan with follow := s.goNeutral.chan.follow } := by
  rw [State.goNeutral, (biteOutsideAbort_frame _).2 .chan (by decide)]
  exact zeroFrame_chan s

theorem reportTrip_chan (s : State) (c : Cause) :
    (s.reportTrip c).chan = { s.chan with follow := (s.reportTrip c).chan.follow } := by
  rcases reportTrip_cases s c with ⟨_, h⟩ | ⟨_, _, h⟩ | ⟨_, _, h⟩ <;> rw [h]
  · rfl
  · exact goNeutral_chan _
  · exact goNeutral_chan _

theorem commandAbsent_chan (s : State) :
    s.commandAbsent.chan = { s.chan with follow := s.commandAbsent.chan.follow } := by
  rw [State.commandAbsent, (biteOutsideAbort_frame _).2 .chan (by decide), (record_frame _ _).2 .chan (by decide)]
  exact zeroFrame_chan (s.withCommandTimer s.link.cmdTimeout)

theorem emit_chan (s : State) (sp : PerChannel Int) (f : LimitFlags) (q : Byte) :
    (s.emit sp f q).chan = { s.chan with follow := (s.emit sp f q).chan.follow } := by
  unfold State.emit
  split
  · exact followFrame_chan ((s.queueDrive sp f q).withPrev sp) sp
  · exact followFrame_chan (((s.queueCab .echo (setpointData sp f q)).queueDrive zeroSetpoints .zeroFrame q).withPrev sp) _

theorem command_chan (s : State) (data : List Byte) (r : PerChannel Int) (q : Byte) :
    ((s.handedOff data).conditionCommand r q).chan =
      { s.chan with follow := ((s.handedOff data).conditionCommand r q).chan.follow } := by
  have h := emit_chan ((s.handedOff data).applyStall ((s.handedOff data).stageOutput r))
    ((s.handedOff data).stageOutput r).sent ((s.handedOff data).stageOutput r).flags q
  rwa [(applyStall_frame _ _).2 .chan (by decide), (handedOff_frame s data).2 .chan (by decide)] at h

/-- The kelly overload monitor changes its latch and count alone. -/
theorem overloadTest_chan (s : State) : s.overloadTest.chan =
    { s.chan with overloadLatch := s.overloadTest.chan.overloadLatch
                  overloadCount := s.overloadTest.chan.overloadCount } := by
  unfold State.overloadTest
  split_ifs <;> rfl

/-- A slot event changes of Channel Control the overload latch and count alone. -/
theorem slotEvent_chan (s : State) (i : SlotId) : (s.slotEvent i).chan =
    { s.chan with overloadLatch := (s.slotEvent i).chan.overloadLatch
                  overloadCount := (s.slotEvent i).chan.overloadCount } := by
  have hbite : ((s.trackerSlotEvent i).biteSlotEvent i
      (trackerChanged s.kelly.items s.tracker (s.trackerSlotEvent i).tracker)).chan = s.chan := by
    rw [(biteSlotEvent_frame _ _ _).2 .chan (by decide), (trackerSlotEvent_frame s i).2 .chan (by decide)]
  unfold State.slotEvent
  dsimp only
  split
  · have h := overloadTest_chan ((s.trackerSlotEvent i).biteSlotEvent i
      (trackerChanged s.kelly.items s.tracker (s.trackerSlotEvent i).tracker))
    rwa [hbite] at h
  · rw [hbite]

theorem deliverSlot_chan (s : State) (i : SlotId) : (s.deliverSlot i).chan =
    { s.chan with overloadLatch := (s.deliverSlot i).chan.overloadLatch
                  overloadCount := (s.deliverSlot i).chan.overloadCount } := by
  have h := slotEvent_chan (s.refreshDerived i) i
  rwa [(refreshDerived_frame s i).2 .chan (by decide)] at h

theorem takeSample_chan (s : State) (i : SlotId) (v : Int) : (s.takeSample i v).chan =
    { s.chan with overloadLatch := (s.takeSample i v).chan.overloadLatch
                  overloadCount := (s.takeSample i v).chan.overloadCount } := by
  have h := deliverSlot_chan (s.storeSlot i ((s.signal.slot i).sampled i v)) i
  rwa [(storeSlot_frame s i _).2 .chan (by decide)] at h

theorem judgeSlot_chan (s : State) (i : SlotId) (r : Slot) : (s.judgeSlot i r).chan =
    { s.chan with overloadLatch := (s.judgeSlot i r).chan.overloadLatch
                  overloadCount := (s.judgeSlot i r).chan.overloadCount } := by
  have h := deliverSlot_chan (s.storeSlot i r) i
  have hstored : (s.storeSlot i r).chan = s.chan := (storeSlot_frame s i r).2 .chan (by decide)
  unfold State.judgeSlot
  dsimp only
  split
  · rw [hstored]
  · rwa [hstored] at h

theorem writeSlotItem_chan {s t : State} {i : SlotId} {j : Nat} {v : Int} (h : s.writeSlotItem i j v = some t) :
    t.chan = { s.chan with overloadLatch := t.chan.overloadLatch, overloadCount := t.chan.overloadCount } := by
  rcases writeSlotItem_cases h with ⟨on, _, _, rfl⟩ | ⟨on, _, _, rfl⟩ | ⟨c, _, rfl⟩
  · exact judgeSlot_chan s i _
  · exact judgeSlot_chan s i _
  · unfold State.configureSlot
    dsimp only
    split
    · rfl
    · exact deliverSlot_chan (s.withSignal (s.signal.withSlot i { s.signal.slot i with cfg := c })) i

/-! ## The Drive Port's state -/

@[simp] theorem queueOwn_state (p : Port) (q : Queued) : (p.queueOwn q).state = p.state := by
  rcases queueOwn_cases p q with ⟨_, h⟩ | ⟨hs, h, _⟩
  · rw [h]
  · rw [hs, h]

@[simp] theorem queueForwarded_state (p : Port) (n : Nat) (f : Frame) : (p.queueForwarded n f).state = p.state := by
  rcases queueForwarded_cases p n f with ⟨hs, _, h, _⟩ | ⟨_, h⟩
  · rw [hs, h]
  · rw [h]

@[simp] theorem complete_state (p : Port) : p.complete.state = p.state := by
  rcases complete_cases p with ⟨_, h⟩ | ⟨_, _, h, _⟩
  · rw [h]
  · exact h

theorem recover_state (p : Port) : p.recover.state = .online := by
  cases h : p.state
  · rw [recover_online h, h]
  · rw [recover_offline h]

theorem zeroFrame_drive (s : State) :
    s.zeroFrame.drive = s.drive.queueOwn (ownFrame s.node .driveSetpoint (setpointData zeroSetpoints .zeroFrame s.lastSeq)) := by
  rw [State.zeroFrame, (followFrame_frame _ _).2 .drive (by decide)]
  rfl

theorem goNeutral_drive (s : State) : s.goNeutral.drive = s.zeroFrame.drive :=
  (biteOutsideAbort_frame _).2 .drive (by decide)

theorem reportTrip_drive_state (s : State) (c : Cause) : (s.reportTrip c).drive.state = s.drive.state := by
  rcases reportTrip_cases s c with ⟨_, h⟩ | ⟨_, _, h⟩ | ⟨_, _, h⟩ <;> rw [h]
  · rfl
  · rw [goNeutral_drive, zeroFrame_drive]; exact queueOwn_state _ _
  · rw [goNeutral_drive, zeroFrame_drive]; exact queueOwn_state _ _

theorem commandAbsent_drive (s : State) : s.commandAbsent.drive =
    s.drive.queueOwn (ownFrame s.node .driveSetpoint (setpointData zeroSetpoints .zeroFrame s.lastSeq)) := by
  rw [State.commandAbsent, (biteOutsideAbort_frame _).2 .drive (by decide), (record_frame _ _).2 .drive (by decide)]
  exact zeroFrame_drive _

/-- The data that the emission of a conditioned frame gives the Drive Port: the frame's own in NORMAL, a zero frame's in
LOOPBACK (R89). -/
def driveData (mode : LinkMode) (sp : PerChannel Int) (f : LimitFlags) (seq : Byte) : List Byte :=
  match mode with
  | .normal => setpointData sp f seq
  | .loopback => setpointData zeroSetpoints .zeroFrame seq

theorem emit_drive (s : State) (sp : PerChannel Int) (f : LimitFlags) (seq : Byte) : (s.emit sp f seq).drive =
    s.drive.queueOwn (ownFrame s.node .driveSetpoint (driveData s.chan.linkMode sp f seq)) := by
  unfold State.emit
  cases s.chan.linkMode <;> (dsimp only; rw [(followFrame_frame _ _).2 .drive (by decide)]; rfl)

theorem conditionCommand_drive (u : State) (r : PerChannel Int) (seq : Byte) : (u.conditionCommand r seq).drive =
    u.drive.queueOwn (ownFrame u.node .driveSetpoint
      (driveData u.chan.linkMode (u.stageOutput r).sent (u.stageOutput r).flags seq)) := by
  have hstall := applyStall_frame u (u.stageOutput r)
  rw [State.conditionCommand, emit_drive, hstall.2 .drive (by decide), hstall.2 .node (by decide),
    hstall.2 .chan (by decide)]

theorem command_drive_state (s : State) (data : List Byte) (r : PerChannel Int) (q : Byte) :
    ((s.handedOff data).conditionCommand r q).drive.state = s.drive.state := by
  rw [conditionCommand_drive, queueOwn_state, (handedOff_frame s data).2 .drive (by decide)]

end Sys2Proof.Machine
end

section
/-! The Fault Monitor and the banks over every step: the statements of chapters 08 and 10 that speak of the whole machine
(R134, R136, R140, R159 to R163). -/

namespace Sys2Proof.Machine

/-! ## Trip and lockout against the records held (R161 to R163) -/

/-- The queue is in order, trip pending stands exactly while a class T record is held, and the lockout flag exactly while
both are. -/
def monitorOk (m : FaultMonitor) : Prop :=
  queueOk m.queue ∧ (m.tripPending = true ↔ m.holdsTrip = true) ∧
    (m.lockout = true ↔ m.holds .stopLine = true ∧ m.holds .driveLinkDown = true)

/-- An asserted STOP line and an OFFLINE Drive Port have their record. -/
def causesHeld (s : State) : Prop :=
  (s.chan.stopLine = .asserted → s.faults.holds .stopLine = true) ∧
    (s.drive.state = .offline → s.faults.holds .driveLinkDown = true)

theorem faultsOk_iff (s : State) : faultsOk s ↔ monitorOk s.faults ∧ causesHeld s := by
  unfold faultsOk monitorOk queueOk causesHeld
  tauto

theorem holdsTrip_iff (m : FaultMonitor) :
    m.holdsTrip = true ↔ m.holds .stopLine = true ∨ m.holds .driveLinkDown = true := by
  simp only [FaultMonitor.holdsTrip, FaultMonitor.holds, List.any_eq_true, decide_eq_true_eq, FaultRecord.cls, cls_t_iff]
  grind

theorem monitorOk_noted {n : Nat} {m k : FaultMonitor} (h : Noted n m k) (hm : monitorOk m) : monitorOk k := by
  obtain ⟨hq, htrip, hlock⟩ := hm
  rw [holdsTrip_iff] at htrip
  refine ⟨h.queueOk hq, ?_, ?_⟩
  · rw [holdsTrip_iff, h.tripPending, h.holds_trip rfl, h.holds_trip rfl]
    exact htrip
  · rw [h.lockout, h.holds_trip rfl, h.holds_trip rfl]
    exact hlock

theorem causesHeld_noted {n : Nat} {s t : State} (h : Noted n s.faults t.faults) (hl : t.chan.stopLine = s.chan.stopLine)
    (hd : t.drive.state = .offline → s.drive.state = .offline) (hs : causesHeld s) : causesHeld t := by
  obtain ⟨hstop, hdrive⟩ := hs
  refine ⟨fun hline => ?_, fun hoff => ?_⟩
  · rw [h.holds_trip rfl]; exact hstop (hl ▸ hline)
  · rw [h.holds_trip rfl]; exact hdrive (hd hoff)

/-- Reports of other classes keep the Fault Monitor in order. -/
theorem faultsOk_noted {n : Nat} {s t : State} (h : Noted n s.faults t.faults) (hl : t.chan.stopLine = s.chan.stopLine)
    (hd : t.drive.state = .offline → s.drive.state = .offline) (hs : faultsOk s) : faultsOk t := by
  rw [faultsOk_iff] at hs ⊢
  exact ⟨monitorOk_noted h hs.1, causesHeld_noted h hl hd hs.2⟩

/-- What stands where the reports are of other classes and neither Channel Control nor the Drive Port is touched. -/
theorem faultsOk_of_frame {n : Nat} {l : List Block} {s t : State} (h : Noted n s.faults t.faults)
    (hframe : unchangedExcept l s t) (hc : Block.chan ∉ l) (hd : Block.drive ∉ l) (hs : faultsOk s) : faultsOk t := by
  have hchan : t.chan = s.chan := hframe.2 .chan hc
  have hdrive : t.drive = s.drive := hframe.2 .drive hd
  exact faultsOk_noted h (by rw [hchan]) (by rw [hdrive]; exact id) hs

/-- After a class T report the class T causes held are those that were, and its own. -/
theorem record_holds_trip (s : State) (c : Cause) {d : Cause} (hd : d.cls = .t) :
    (s.record c).faults.holds d = true ↔ s.faults.holds d = true ∨ d = c := by
  rw [record_faults]
  refine ⟨fun h => ?_, fun h => ?_⟩
  · exact or_iff_not_imp_right.2 fun hne => holds_of_noted hne h
  · rcases h with h | rfl
    · exact noted_holds_trip hd h
    · exact noted_holds_self _ (s.makeRecord d)

/-- A class T report leaves the monitor in order: a new one sets trip pending, or the lockout flag where trip pending stood
for the other cause. -/
theorem reportTrip_monitorOk {s : State} {c : Cause} (hc : c.cls = .t) (hs : monitorOk s.faults) :
    monitorOk (s.reportTrip c).faults := by
  obtain ⟨hq, htrip, hlock⟩ := hs
  rw [holdsTrip_iff] at htrip
  have hqueue : queueOk (s.record c).faults.queue := queueOk_noted hq (makeRecord_recordOk s c)
  have hstop := record_holds_trip s c (d := .stopLine) rfl
  have hdrive := record_holds_trip s c (d := .driveLinkDown) rfl
  have hneutral : ∀ x : FaultMonitor, x.queue = (s.record c).faults.queue →
      (x.tripPending = true) → (x.lockout = true ↔ (s.record c).faults.holds .stopLine = true ∧
        (s.record c).faults.holds .driveLinkDown = true) →
      monitorOk ((s.record c).withFaults x).goNeutral.faults := fun x hxq hxt hxl => by
    have hholds : ∀ d, x.holds d = (s.record c).faults.holds d := fun d => by simp only [FaultMonitor.holds, hxq]
    refine monitorOk_noted (goNeutral_noted _) ⟨by rwa [State.withFaults_faults, hxq], ?_, ?_⟩
    · rw [State.withFaults_faults, holdsTrip_iff, hholds, hholds, hstop, hdrive]
      exact iff_of_true hxt (((cls_t_iff c).1 hc).imp (fun h => .inr h.symm) (fun h => .inr h.symm))
    · rw [State.withFaults_faults, hholds, hholds]
      exact hxl
  rcases reportTrip_cases s c with ⟨hh, he⟩ | ⟨hh, ht, he⟩ | ⟨hh, ht, he⟩ <;> rw [he]
  · refine ⟨hqueue, ?_, ?_⟩
    · rw [holdsTrip_iff, hstop, hdrive, record_tripPending, htrip]
      rcases (cls_t_iff c).1 hc with rfl | rfl <;> simp [hh]
    · rw [hstop, hdrive, record_lockout, hlock]
      rcases (cls_t_iff c).1 hc with rfl | rfl <;> simp [hh]
  · refine hneutral _ rfl ht ?_
    rw [hstop, hdrive]
    rw [ht] at htrip
    rcases (cls_t_iff c).1 hc with rfl | rfl <;> simpa [hh] using htrip
  · refine hneutral _ rfl rfl ?_
    rw [hstop, hdrive, record_lockout, hlock]
    rw [ht] at htrip
    rcases (cls_t_iff c).1 hc with rfl | rfl <;> simpa [hh] using htrip

/-- A class T report holds its cause and every class T cause that was held. -/
theorem reportTrip_holds (s : State) (c : Cause) {d : Cause} (hd : d.cls = .t) (h : s.faults.holds d = true ∨ d = c) :
    (s.reportTrip c).faults.holds d = true := by
  have hrecord := (record_holds_trip s c hd).2 h
  rcases reportTrip_cases s c with ⟨_, he⟩ | ⟨_, _, he⟩ | ⟨_, _, he⟩ <;> rw [he]
  · exact hrecord
  · rw [(goNeutral_noted _).holds_trip hd]; exact hrecord
  · rw [(goNeutral_noted _).holds_trip hd]; exact hrecord

/-- A class T report keeps the order of the Fault Monitor; the cause it holds may have just come about. -/
theorem reportTrip_faultsOk {s : State} {c : Cause} (hc : c.cls = .t) (hm : monitorOk s.faults)
    (hstop : s.chan.stopLine = .asserted → s.faults.holds .stopLine = true ∨ .stopLine = c)
    (hdrive : s.drive.state = .offline → s.faults.holds .driveLinkDown = true ∨ .driveLinkDown = c) :
    faultsOk (s.reportTrip c) := by
  rw [faultsOk_iff]
  refine ⟨reportTrip_monitorOk hc hm, fun hline => ?_, fun hoff => ?_⟩
  · rw [reportTrip_chan] at hline
    exact reportTrip_holds s c rfl (hstop hline)
  · rw [reportTrip_drive_state] at hoff
    exact reportTrip_holds s c rfl (hdrive hoff)

/-- A class T report never clears the lockout flag. -/
theorem reportTrip_lockout {s : State} (c : Cause) (h : s.faults.lockout = true) :
    (s.reportTrip c).faults.lockout = true := by
  rcases reportTrip_cases s c with ⟨_, he⟩ | ⟨_, _, he⟩ | ⟨_, _, he⟩ <;> rw [he]
  · exact h
  · exact (goNeutral_noted _).lockout
  · exact (goNeutral_noted _).lockout.trans h

/-! ## Acknowledgement and restart -/

theorem remove_holds (m : FaultMonitor) (c d : Cause) :
    (m.remove c).holds d = true ↔ m.holds d = true ∧ d ≠ c := by
  simp only [FaultMonitor.remove, FaultMonitor.holds, List.any_eq_true, List.mem_filter, decide_eq_true_eq]
  grind

/-- A removed record leaves the monitor in order (R163); out of LOCKOUT not both class T causes were held. -/
theorem remove_monitorOk {m : FaultMonitor} (c : Cause) (hl : m.lockout = false) (hm : monitorOk m) :
    monitorOk (m.remove c) := by
  obtain ⟨hq, htrip, hlock⟩ := hm
  have hsub : (m.remove c).queue.Sublist m.queue := List.filter_sublist
  have hpending : (m.remove c).tripPending =
      if c.cls = .t ∧ ¬ (m.remove c).holdsTrip = true then false else m.tripPending := rfl
  refine ⟨queueOk_of_sublist hsub hq, ?_, ?_⟩
  · rw [hpending]
    rw [holdsTrip_iff] at htrip
    split
    · rename_i h
      exact iff_of_false (by simp) h.2
    · rename_i h
      rw [htrip, holdsTrip_iff, remove_holds, remove_holds]
      by_cases hc : c.cls = .t
      · have hheld : (m.remove c).holdsTrip = true := by_contra fun hnot => h ⟨hc, hnot⟩
        rw [holdsTrip_iff, remove_holds, remove_holds] at hheld
        exact iff_of_true (hheld.imp And.left And.left) hheld
      · have hne : ∀ d : Cause, d.cls = .t → d ≠ c := fun d hd he => hc (he ▸ hd)
        simp [hne .stopLine rfl, hne .driveLinkDown rfl]
  · rw [remove_holds, remove_holds, show (m.remove c).lockout = m.lockout from rfl, hlock]
    rw [hl] at hlock
    tauto

theorem restartFaults_monitorOk {s : State} (hl : notLockedOut s) : monitorOk s.restartFaults.faults := by
  refine ⟨⟨by simp [State.restartFaults], by simp [State.restartFaults], by simp [State.restartFaults]⟩, ?_, ?_⟩
  · simp [State.restartFaults, FaultMonitor.holdsTrip]
  · simpa [State.restartFaults, FaultMonitor.holds] using Bool.eq_false_iff.1 hl

theorem restartAbort_noted (s : State) : Noted 1 s.faults s.restartBanks.biteOutsideAbort.faults :=
  show Noted 1 s.restartBanks.faults _ from bankWork_noted (biteOutsideAbort_bankWork _)

/-- The blocks' restart leaves an empty queue, trip pending clear and the lockout flag as it was (R167). -/
theorem restartBlocks_faults (s : State) :
    s.restartBlocks.faults = { queue := [], tripPending := false, lockout := s.faults.lockout } := by
  have hbank : Noted 1 s.faults s.restartBanks.biteOutsideAbort.faults :=
    restartAbort_noted s
  have hlock := hbank.lockout
  unfold State.restartBlocks State.restartFaults
  rw [← hlock]
  rfl

theorem reportStopLine_drive_state (s : State) : s.reportStopLine.drive.state = s.drive.state := by
  unfold State.reportStopLine
  split
  · exact reportTrip_drive_state s _
  · rfl

/-- The restart's own reports put the Fault Monitor in order (R100, R167). -/
theorem reportCauses_faultsOk {s : State} (hm : monitorOk s.faults) :
    faultsOk s.reportStopLine.reportDriveLink := by
  have hstop : monitorOk s.reportStopLine.faults ∧ (s.reportStopLine.chan.stopLine = .asserted →
      s.reportStopLine.faults.holds .stopLine = true) := by
    unfold State.reportStopLine
    split
    · exact ⟨reportTrip_monitorOk rfl hm, fun _ => reportTrip_holds s _ rfl (.inr rfl)⟩
    · rename_i hreleased
      exact ⟨hm, fun h => absurd h hreleased⟩
  obtain ⟨hmonitor, hline⟩ := hstop
  unfold State.reportDriveLink
  split
  · exact reportTrip_faultsOk rfl hmonitor (fun h => .inl (hline h)) (fun _ => .inr rfl)
  · rename_i honline
    exact (faultsOk_iff _).2 ⟨hmonitor, hline, fun h => absurd h honline⟩

theorem fullReset_faultsOk (rest : List Instr) (straps : BitVec 4) (stop : StopLevel) :
    faultsOk (State.fullReset rest straps stop).reportStopLine := by
  have hm : monitorOk (State.fullReset rest straps stop).faults := by
    refine ⟨⟨Nat.zero_le _, List.nodup_nil, by simp [State.fullReset, FaultMonitor.reset]⟩, ?_, ?_⟩
    · simp [State.fullReset, FaultMonitor.reset, FaultMonitor.holdsTrip]
    · simp [State.fullReset, FaultMonitor.reset, FaultMonitor.holds]
  have h := reportCauses_faultsOk hm
  have honline : (State.fullReset rest straps stop).reportStopLine.drive.state = .online := reportStopLine_drive_state _
  simpa [State.reportDriveLink, honline] using h

/-! ## Every event and effect -/

theorem switchBanks_noted (s : State) : Noted 1 s.faults s.switchBanks.faults :=
  noted_record_of_same (u := (s.withBanks { s.banks with
    active := otherBank s.banks.active, activeValid := true, pendingSwitch := false }).withReservation none) rfl (by decide)

theorem event_faultsOk {s t : State} (h : Event s t) (hs : faultsOk s) : faultsOk t := by
  have hsplit := (faultsOk_iff s).1 hs
  obtain ⟨hm, hstop, hdrive⟩ := hsplit
  cases h with
  | wait | millisecond | reply | status => exact hs
  | report c hc => exact faultsOk_of_frame (noted_record s hc) (record_frame s c) (by decide) (by decide) hs
  | sample i v =>
    exact faultsOk_noted (takeSample_noted s i v) (by rw [takeSample_chan])
      (by rw [(takeSample_frame s i v).2 .drive (by decide)]; exact id) hs
  | forward port f hf =>
    refine faultsOk_noted (n := 0) ?_ ?_ ?_ hs <;> cases port
    · exact .none 0 _
    · exact .none 0 _
    · rfl
    · rfl
    · simp [State.forward, State.withPort, otherPort, State.port]
    · exact id
  | complete port =>
    refine faultsOk_noted (n := 0) ?_ ?_ ?_ hs <;> cases port
    · exact .none 0 _
    · exact .none 0 _
    · rfl
    · rfl
    · exact id
    · simp [State.withPort, State.port]
  | fail port ho =>
    cases port
    · exact faultsOk_of_frame (s := s.withCab s.cab.fail) (noted_record _ (by decide)) (record_frame _ .cabLinkDown)
        (by decide) (by decide) hs
    · exact reportTrip_faultsOk rfl hm (fun h => .inl (hstop h)) (fun _ => .inr rfl)
  | recover port =>
    refine faultsOk_noted (n := 0) ?_ ?_ ?_ hs <;> cases port
    · exact .none 0 _
    · exact .none 0 _
    · rfl
    · rfl
    · exact id
    · simp [State.withPort, State.port, recover_state]
  | commandAbsent =>
    exact faultsOk_noted (commandAbsent_noted s) (by rw [commandAbsent_chan])
      (by rw [commandAbsent_drive, queueOwn_state]; exact id) hs
  | slotAbsent i =>
    exact faultsOk_noted (judgeSlot_noted s i _) (by rw [State.slotAbsent, judgeSlot_chan])
      (by rw [(slotAbsent_frame s i).2 .drive (by decide)]; exact id) hs
  | noProgress => exact faultsOk_of_frame (noProgress_noted s) (noProgress_frame s) (by decide) (by decide) hs
  | settleOver => exact faultsOk_of_frame (settleOver_noted s) (settleOver_frame s) (by decide) (by decide) hs
  | stopAsserted => exact reportTrip_faultsOk rfl hm (fun _ => .inr rfl) (fun h => .inl (hdrive h))
  | stopReleased => exact (faultsOk_iff _).2 ⟨hm, (fun h => StopLevel.noConfusion h), hdrive⟩

theorem effect_faultsOk {s t : State} (h : Effect s t) (hs : faultsOk s) : faultsOk t := by
  have hsplit := (faultsOk_iff s).1 hs
  obtain ⟨hm, hstop, hdrive⟩ := hsplit
  cases h with
  | none | writeRoute | writeLink | openBank | switchWaits | cancel | channelMode | linkMode => exact hs
  | writeBank m bank i v hb hp =>
    have hframe := afterBankWrite_frame (s.withBanks (s.banks.withBank bank ((s.banks.bank bank).setIfInBounds i v))) m bank
    refine faultsOk_of_frame (n := 0) (s := s.withBanks _) ?_ hframe (by decide) (by decide) hs
    rw [hframe.2 .faults (by decide)]
    exact .none 0 _
  | writeMap i v hmode =>
    exact faultsOk_of_frame (bankWork_noted (writeMap_bankWork s _ _ i)) (writeMap_frame s _ _ i) (by decide) (by decide) hs
  | writeSignal i j v hw =>
    exact faultsOk_noted (writeSlotItem_noted hw) (by rw [writeSlotItem_chan hw])
      (by rw [(writeSlotItem_frame hw).2 .drive (by decide)]; exact id) hs
  | switchActs hp hv =>
    exact faultsOk_of_frame (switchBanks_noted s) (switchBanks_frame s) (by decide) (by decide) hs
  | commitMap hmode hv =>
    exact faultsOk_of_frame (bankWork_noted (commitMap_bankWork s)) (commitMap_frame s) (by decide) (by decide) hs
  | ack c hl hh ha =>
    have hline : ((s.withFaults (s.faults.remove c)).clearLatch c).chan.stopLine = s.chan.stopLine := by
      cases c <;> rfl
    have hframe := clearLatch_frame (s.withFaults (s.faults.remove c)) c
    rw [faultsOk_iff]
    unfold causesHeld
    rw [hframe.2 .faults (by decide), hframe.2 .drive (by decide), hline]
    refine ⟨remove_monitorOk c hl hm, fun h => ?_, fun h => ?_⟩
    · refine (remove_holds _ _ _).2 ⟨hstop h, fun he => ?_⟩
      subst he
      simp [State.stillActive, h] at ha
    · refine (remove_holds _ _ _).2 ⟨hdrive h, fun he => ?_⟩
      subst he
      simp only [State.withFaults_drive] at h
      simp [State.stillActive, h] at ha
  | restart hl =>
    refine reportCauses_faultsOk ?_
    unfold State.restartBlocks
    refine restartFaults_monitorOk ?_
    exact (restartAbort_noted s).lockout.trans hl

/-- Nothing but a full reset leaves LOCKOUT (R162). -/
theorem event_lockout {s t : State} (h : Event s t) (hs : s.faults.lockout = true) : t.faults.lockout = true := by
  cases h with
  | wait | millisecond | reply | status | report | stopReleased => exact hs
  | sample i v => exact (takeSample_noted s i v).lockout.trans hs
  | forward port f hf => cases port <;> exact hs
  | complete port => cases port <;> exact hs
  | recover port => cases port <;> exact hs
  | fail port ho =>
    cases port
    · exact hs
    · exact reportTrip_lockout (s := s.withDrive s.drive.fail) _ hs
  | commandAbsent => exact (commandAbsent_noted s).lockout.trans hs
  | slotAbsent i => exact (judgeSlot_noted s i _).lockout.trans hs
  | noProgress => exact (noProgress_noted s).lockout.trans hs
  | settleOver => exact (settleOver_noted s).lockout.trans hs
  | stopAsserted => exact reportTrip_lockout (s := s.withStop .asserted) _ hs

theorem effect_lockout {s t : State} (h : Effect s t) (hs : s.faults.lockout = true) : t.faults.lockout = true := by
  cases h with
  | none | writeRoute | writeLink | openBank | switchWaits | switchActs | cancel | channelMode | linkMode => exact hs
  | writeBank m bank i v hb hp =>
    rw [(afterBankWrite_frame _ m bank).2 .faults (by decide)]
    exact hs
  | writeMap i v hmode => exact (bankWork_noted (writeMap_bankWork s _ _ i)).lockout.trans hs
  | writeSignal i j v hw => exact (writeSlotItem_noted hw).lockout.trans hs
  | commitMap hmode hv => exact (bankWork_noted (commitMap_bankWork s)).lockout.trans hs
  | ack c hl hh ha =>
    rw [notLockedOut, hs] at hl
    cases hl
  | restart hl =>
    rw [notLockedOut, hs] at hl
    cases hl

theorem command_noted (s : State) (data : List Byte) (r : PerChannel Int) (q : Byte) :
    Noted 5 s.faults ((s.handedOff data).conditionCommand r q).faults :=
  (handedOff_noted s data).trans (conditionCommand_noted _ _ _)

/-- Settles O38: a report of another class keeps the class T records, and a class T report sets the flag that answers the
records then held; ACK and RESTART, which clear them, are refused in LOCKOUT. -/
theorem faultsKeptAndLockoutStays : Obligations.FaultsKeptAndLockoutStays := by
  intro s t h
  constructor
  · refine step_keeps fullReset_faultsOk (fun s data _ hs => ?_) effect_faultsOk event_faultsOk h
    exact faultsOk_noted (command_noted s data _ _) (by rw [command_chan]) (by rw [command_drive_state]; exact id) hs
  · intro hs hnot
    rcases step_related (R := fun s t => s.faults.lockout = true → t.faults.lockout = true) (fun _ => id)
      (fun h₁ h₂ => h₂ ∘ h₁) (fun s data _ hl => (command_noted s data _ _).lockout.trans hl) effect_lockout event_lockout h with
      ⟨straps, stop, rest, hp, _⟩ | hkept
    · exact absurd hp (hnot straps stop rest)
    · exact hkept hs

/-! ## The queue after one report (R158 to R160) -/

theorem hasClass_iff (k : FaultClass) (q : List FaultRecord) : hasClass k q = true ↔ ∃ y ∈ q, y.cls = k := by
  simp [hasClass]

/-- The oldest record of a class, where there is one, is the one that leaves. -/
theorem dropOldest_split {k : FaultClass} {q : List FaultRecord} (h : ∃ y ∈ q, y.cls = k) :
    ∃ pre x post, q = pre ++ x :: post ∧ dropOldest k q = pre ++ post ∧ x.cls = k ∧ ∀ y ∈ pre, y.cls ≠ k := by
  obtain ⟨y, hy, hyk⟩ := h
  obtain ⟨x, pre, post, hpre, hx, hq, hdrop⟩ :=
    List.exists_of_eraseP (p := fun r : FaultRecord => decide (r.cls = k)) hy (by simpa using hyk)
  exact ⟨pre, x, post, hq, hdrop, by simpa using hx, fun z hz => by simpa using hpre z hz⟩

/-- Settles O39: a report raises a count or appends, and a full queue of different causes always holds a record of class N, D
or P, of which the oldest leaves. -/
theorem reportRaisesOrAppends : Obligations.ReportRaisesOrAppends := by
  intro s c hs
  obtain ⟨⟨⟨-, hnodup, -⟩, -⟩, -⟩ := (faultsOk_iff s).1 hs
  have hnew : s.faults.holds c = false → (s.record c).faults.queue = appendRecord s.faults.queue (recordOf s c) :=
    noted_queue_of_new (r := s.makeRecord c)
  refine ⟨record_frame s c, rfl, rfl, noted_queue_of_holds (r := s.makeRecord c), fun hc hlen => ?_, fun hc hlen => ?_⟩
  · rw [hnew hc, appendRecord, if_neg (by simpa [Config.faultQueuePlaces] using hlen)]
  have hafter : (s.record c).faults.queue = evictOne s.faults.queue ++ [recordOf s c] := by
    rw [hnew hc, appendRecord, if_pos (by simp [Config.faultQueuePlaces, hlen])]
  have hleaves : ∀ k, (∃ y ∈ s.faults.queue, y.cls = k) → evictOne s.faults.queue = dropOldest k s.faults.queue →
      ∃ pre x post, s.faults.queue = pre ++ x :: post ∧
        (s.record c).faults.queue = pre ++ post ++ [recordOf s c] ∧ x.cls = k ∧ ∀ y ∈ pre, y.cls ≠ k := fun k hk he => by
    obtain ⟨pre, x, post, hq, hdrop, hx, hpre⟩ := dropOldest_split hk
    exact ⟨pre, x, post, hq, by rw [hafter, he, hdrop], hx, hpre⟩
  refine ⟨fun hn => hleaves _ hn ?_, fun hn hd => hleaves _ hd ?_, fun hnone => hleaves _ ?_ ?_⟩
  · rw [evictOne, if_pos ((hasClass_iff _ _).2 hn)]
  · rw [evictOne, if_neg (by rw [hasClass_iff]; exact fun ⟨y, hy, hyn⟩ => hn y hy hyn), if_pos ((hasClass_iff _ _).2 hd)]
  · obtain ⟨x, hx, hxt⟩ := exists_not_trip_of_full hnodup (by omega)
    obtain ⟨hxn, hxd⟩ := hnone x hx
    refine ⟨x, hx, ?_⟩
    revert hxt hxn hxd
    cases x.cls <;> simp
  · rw [evictOne, if_neg (by rw [hasClass_iff]; exact fun ⟨y, hy, hyn⟩ => (hnone y hy).1 hyn),
      if_neg (by rw [hasClass_iff]; exact fun ⟨y, hy, hyd⟩ => (hnone y hy).2 hyd)]

/-! ## The banks over every step (R136, R140) -/

/-- The banks and the reservation stand, or the switch that was pending has taken effect. -/
def switchedAtMost (s t : State) : Prop :=
  ∃ p, (p = true → s.banks.pendingSwitch = true) ∧ switchedIf p s t

theorem switchedAtMost_of_same {s t : State} (hb : t.banks = s.banks) (hr : t.reservation = s.reservation) :
    switchedAtMost s t := ⟨false, by simp, hb, hr⟩

theorem switchedAtMost_of_frame {l : List Block} {s t : State} (h : unchangedExcept l s t) (hb : Block.banks ∉ l)
    (hr : Block.reservation ∉ l) : switchedAtMost s t := switchedAtMost_of_same (h.2 .banks hb) (h.2 .reservation hr)

theorem switchedAtMost_no_pending {s t : State} (h : switchedAtMost s t) (hp : s.banks.pendingSwitch = false) :
    t.banks = s.banks ∧ t.reservation = s.reservation := by
  obtain ⟨p, hpending, hst⟩ := h
  cases p
  · simpa [switchedIf] using hst
  · rw [hp] at hpending
    cases hpending rfl

theorem switchedAtMost_of_bankWork {s t : State} (h : bankWork s t) : switchedAtMost s t := by
  rcases h with ⟨hb, hr, _⟩ | ⟨hp, hb, hr, _⟩
  · exact switchedAtMost_of_same hb hr
  · exact ⟨true, fun _ => hp, hb, hr⟩

/-- A switch that took effect leaves none pending, so at most one takes effect. -/
theorem switchedAtMost_trans {s t u : State} (h₁ : switchedAtMost s t) (h₂ : switchedAtMost t u) : switchedAtMost s u := by
  obtain ⟨p, hp, hst⟩ := h₁
  obtain ⟨q, hq, htu⟩ := h₂
  cases p <;> cases q <;> simp only [switchedIf, if_true, Bool.false_eq_true, if_false] at hst htu
  · exact switchedAtMost_of_same (htu.1.trans hst.1) (htu.2.trans hst.2)
  · refine ⟨true, fun _ => hst.1 ▸ hq rfl, ?_⟩
    simpa only [switchedIf, if_true, hst.1] using htu
  · exact ⟨true, hp, htu.1.trans hst.1, htu.2.trans hst.2⟩
  · have hpending := hq rfl
    rw [hst.1] at hpending
    cases hpending

theorem reportTrip_switchedAtMost (s : State) (c : Cause) : switchedAtMost s (s.reportTrip c) := by
  have hrecord : switchedAtMost s (s.record c) := switchedAtMost_of_same rfl rfl
  have hneutral : ∀ x, switchedAtMost s ((s.record c).withFaults x).goNeutral := fun x =>
    switchedAtMost_trans (t := ((s.record c).withFaults x).zeroFrame)
      (switchedAtMost_of_frame (s := (s.record c).withFaults x) (zeroFrame_frame _) (by decide) (by decide))
      (switchedAtMost_of_bankWork (biteOutsideAbort_bankWork _))
  rcases reportTrip_cases s c with ⟨_, he⟩ | ⟨_, _, he⟩ | ⟨_, _, he⟩ <;> rw [he]
  · exact hrecord
  · exact hneutral _
  · exact hneutral _

theorem slotEvent_switchedAtMost (s : State) (i : SlotId) : switchedAtMost s (s.slotEvent i) := by
  have hbite := switchedAtMost_trans (switchedAtMost_of_frame (trackerSlotEvent_frame s i) (by decide) (by decide))
    (switchedAtMost_of_bankWork (biteSlotEvent_bankWork (s.trackerSlotEvent i) i
      (trackerChanged s.kelly.items s.tracker (s.trackerSlotEvent i).tracker)))
  unfold State.slotEvent
  dsimp only
  split
  · exact switchedAtMost_trans hbite (switchedAtMost_of_frame (overloadTest_frame _) (by decide) (by decide))
  · exact hbite

theorem deliverSlot_switchedAtMost (s : State) (i : SlotId) : switchedAtMost s (s.deliverSlot i) :=
  switchedAtMost_trans (switchedAtMost_of_frame (refreshDerived_frame s i) (by decide) (by decide))
    (slotEvent_switchedAtMost _ i)

theorem takeSample_switchedAtMost (s : State) (i : SlotId) (v : Int) : switchedAtMost s (s.takeSample i v) :=
  switchedAtMost_trans (switchedAtMost_of_frame (storeSlot_frame s i _) (by decide) (by decide))
    (deliverSlot_switchedAtMost _ i)

theorem judgeSlot_switchedAtMost (s : State) (i : SlotId) (r : Slot) : switchedAtMost s (s.judgeSlot i r) := by
  have hstored := switchedAtMost_of_frame (storeSlot_frame s i r) (by decide) (by decide)
  unfold State.judgeSlot
  dsimp only
  split
  · exact hstored
  · exact switchedAtMost_trans hstored (deliverSlot_switchedAtMost _ i)

theorem configureSlot_switchedAtMost (s : State) (i : SlotId) (c : SlotConfig) :
    switchedAtMost s (s.configureSlot i c) := by
  have hstored : ∀ x, switchedAtMost s (s.withSignal x) := fun x => switchedAtMost_of_same rfl rfl
  unfold State.configureSlot
  dsimp only
  split
  · exact hstored _
  · exact switchedAtMost_trans (hstored _) (deliverSlot_switchedAtMost _ i)

theorem writeSlotItem_switchedAtMost {s t : State} {i : SlotId} {j : Nat} {v : Int} (h : s.writeSlotItem i j v = some t) :
    switchedAtMost s t := by
  rcases writeSlotItem_cases h with ⟨on, _, _, rfl⟩ | ⟨on, _, _, rfl⟩ | ⟨c, _, rfl⟩
  · exact judgeSlot_switchedAtMost s i _
  · exact judgeSlot_switchedAtMost s i _
  · exact configureSlot_switchedAtMost s i c

theorem handedOff_switchedAtMost (s : State) (data : List Byte) : switchedAtMost s (s.handedOff data) := by
  have haction : ∀ u : State, ∀ a b, switchedAtMost u ((u.biteAction a).withAction b) := fun u a b => by
    rcases biteAction_cases u a with he | hw
    · rw [he]; exact switchedAtMost_of_same rfl rfl
    · exact switchedAtMost_trans (switchedAtMost_of_bankWork hw) (switchedAtMost_of_same rfl rfl)
  refine switchedAtMost_trans (t := s.acceptCommand data) (switchedAtMost_of_same rfl rfl) ?_
  unfold State.handedOff State.handOff
  split
  · exact switchedAtMost_of_same rfl rfl
  · split
    · exact haction _ _ _
    · exact switchedAtMost_of_same rfl rfl

theorem command_switchedAtMost (s : State) (data : List Byte) (r : PerChannel Int) (q : Byte) :
    switchedAtMost s ((s.handedOff data).conditionCommand r q) :=
  switchedAtMost_trans (handedOff_switchedAtMost s data)
    (switchedAtMost_of_frame (conditionCommand_frame _ _ _) (by decide) (by decide))

/-- No event but a request writes a bank or makes a switch pending. -/
theorem event_switchedAtMost {s t : State} (h : Event s t) : switchedAtMost s t := by
  cases h with
  | wait | millisecond | report | reply | status | stopReleased => exact switchedAtMost_of_same rfl rfl
  | sample i v => exact takeSample_switchedAtMost s i v
  | forward port => cases port <;> exact switchedAtMost_of_same rfl rfl
  | complete port => cases port <;> exact switchedAtMost_of_same rfl rfl
  | recover port => cases port <;> exact switchedAtMost_of_same rfl rfl
  | fail port =>
    cases port
    · exact switchedAtMost_of_same rfl rfl
    · exact reportTrip_switchedAtMost (s.withDrive s.drive.fail) _
  | commandAbsent =>
    refine switchedAtMost_trans ?_ (switchedAtMost_of_bankWork (biteOutsideAbort_bankWork _))
    have hzero := zeroFrame_frame (s.withCommandTimer s.link.cmdTimeout)
    exact switchedAtMost_of_same (hzero.2 .banks (by decide)) (hzero.2 .reservation (by decide))
  | slotAbsent i => exact judgeSlot_switchedAtMost s i _
  | noProgress =>
    unfold State.noProgress
    split
    · exact switchedAtMost_trans (t := s.enterJammed .biteJam) (switchedAtMost_of_bankWork (enterJammed_bankWork s _))
        (switchedAtMost_of_same rfl rfl)
    all_goals exact switchedAtMost_of_same rfl rfl
  | settleOver =>
    unfold State.settleOver
    split
    · exact switchedAtMost_of_bankWork (biteEnd_bankWork s _)
    all_goals exact switchedAtMost_of_same rfl rfl
  | stopAsserted => exact reportTrip_switchedAtMost (s.withStop .asserted) _

/-- But for a reset, the items of the active bank stand; where the banks change places every item stands, active-valid is
true, no switch is pending and the reservation is absent. -/
def activeBankKept (s t : State) : Prop :=
  (t.banks.bank s.banks.active = s.banks.bank s.banks.active) ∧
    (t.banks.active ≠ s.banks.active →
      t.banks.bank t.banks.active = s.banks.bank t.banks.active ∧ t.banks.activeValid = true ∧
      t.banks.pendingSwitch = false ∧ t.reservation = none)

theorem activeBankKept_of_banks {s t : State} (h : t.banks.bank s.banks.active = s.banks.bank s.banks.active)
    (ha : t.banks.active = s.banks.active) : activeBankKept s t := ⟨h, fun hne => absurd ha hne⟩

theorem activeBankKept_of_switched {s t : State} (h : switchedAtMost s t) : activeBankKept s t := by
  obtain ⟨p, -, hst⟩ := h
  cases p <;> simp only [switchedIf, if_true, Bool.false_eq_true, if_false] at hst <;> obtain ⟨hb, hr⟩ := hst
  · exact activeBankKept_of_banks (by rw [hb]) (by rw [hb])
  · refine ⟨?_, fun _ => ⟨?_, ?_, ?_, hr⟩⟩
    · rw [hb]; cases s.banks.active <;> rfl
    · rw [hb]; cases otherBank s.banks.active <;> rfl
    · rw [hb]
    · rw [hb]

theorem withBank_bank_ne (p : ProfileBanks) {i j : BankId} (b : Bank) (h : i ≠ j) : (p.withBank i b).bank j = p.bank j := by
  cases i <;> cases j <;> first | rfl | exact absurd rfl h

@[simp] theorem withBank_active (p : ProfileBanks) (i : BankId) (b : Bank) : (p.withBank i b).active = p.active := by
  cases i <;> rfl

theorem reportCauses_switchedAtMost (s : State) : switchedAtMost s s.reportStopLine.reportDriveLink := by
  have hreport : ∀ (u : State) (p : Prop) [Decidable p] (c : Cause), switchedAtMost u (if p then u.reportTrip c else u) :=
    fun u p _ c => by
      split
      · exact reportTrip_switchedAtMost u c
      · exact switchedAtMost_of_same rfl rfl
  exact switchedAtMost_trans (hreport s _ _) (hreport _ _ _)

/-- After the banks and the bite, the blocks' restart reaches neither (log entry 10). -/
theorem restartBlocks_afterAbort (s : State) : unchangedExcept [.cond, .chan, .signal, .tracker, .commandTimer, .faults]
    s.restartBanks.biteOutsideAbort s.restartBlocks := by
  unfold State.restartBlocks State.restartSlots State.restartTracker State.restartFaults State.refreshTorque
    State.refreshCrowd
  dsimp only
  refine unchangedExcept_trans ?_ (unchangedExcept_mono (by simp) (withFaults_frame _ _))
  refine unchangedExcept_trans ?_ (unchangedExcept_mono (by simp) (withCommandTimer_frame _ _))
  refine unchangedExcept_trans ?_ (unchangedExcept_mono (by simp) (withTracker_frame _ _))
  refine unchangedExcept_trans ?_ (unchangedExcept_mono (by simp) (withSignal_frame _ _))
  refine unchangedExcept_trans ?_ (unchangedExcept_mono (by simp) (withSignal_frame _ _))
  refine unchangedExcept_trans ?_ (unchangedExcept_mono (by simp) (withSignal_frame _ _))
  refine unchangedExcept_trans ?_ (unchangedExcept_mono (by simp) (withChan_frame _ _))
  exact unchangedExcept_mono (by simp) (withCond_frame _ _)

/-- A restart removes the pending switch first, so none takes effect (R143, R154). -/
theorem restart_banks (s : State) :
    s.restart.banks = { s.banks with pendingSwitch := false } ∧ s.restart.reservation = none := by
  have hwork := bankWork_of_no_pending (biteOutsideAbort_bankWork s.restartBanks) rfl
  have hblocks : switchedAtMost s.restartBanks s.restartBlocks :=
    switchedAtMost_of_same (((restartBlocks_afterAbort s).2 .banks (by decide)).trans hwork.1)
      (((restartBlocks_afterAbort s).2 .reservation (by decide)).trans hwork.2.1)
  exact switchedAtMost_no_pending (switchedAtMost_trans hblocks (reportCauses_switchedAtMost _)) rfl

theorem switchBanks_banks (s : State) : s.switchBanks.banks =
    { s.banks with active := otherBank s.banks.active, activeValid := true, pendingSwitch := false } := rfl

theorem effect_activeBankKept {s t : State} (h : Effect s t) : activeBankKept s t := by
  cases h with
  | none | writeRoute | writeLink | openBank | switchWaits | cancel | channelMode | linkMode =>
    exact activeBankKept_of_banks rfl rfl
  | writeBank m bank i v hb hp =>
    have hframe := afterBankWrite_frame (s.withBanks (s.banks.withBank bank ((s.banks.bank bank).setIfInBounds i v))) m bank
    refine activeBankKept_of_banks ?_ ?_
    · rw [hframe.2 .banks (by decide)]
      exact withBank_bank_ne _ _ hb
    · rw [hframe.2 .banks (by decide)]
      exact withBank_active _ _ _
  | writeMap i v hmode => exact activeBankKept_of_switched (switchedAtMost_of_bankWork (writeMap_bankWork s _ _ i))
  | writeSignal i j v hw => exact activeBankKept_of_switched (writeSlotItem_switchedAtMost hw)
  | switchActs hp hv =>
    refine ⟨?_, fun _ => ⟨?_, rfl, rfl, rfl⟩⟩
    · rw [switchBanks_banks]; cases s.banks.active <;> rfl
    · rw [switchBanks_banks]; cases otherBank s.banks.active <;> rfl
  | commitMap hmode hv => exact activeBankKept_of_switched (switchedAtMost_of_bankWork (commitMap_bankWork s))
  | ack c hl hh ha =>
    have hframe := clearLatch_frame (s.withFaults (s.faults.remove c)) c
    exact activeBankKept_of_banks (by rw [hframe.2 .banks (by decide)]; rfl) (by rw [hframe.2 .banks (by decide)]; rfl)
  | restart hl => exact activeBankKept_of_banks (s := s) (by rw [(restart_banks s).1]; rfl) (by rw [(restart_banks s).1])

/-- Settles O55: only a request writes a bank or makes a switch pending, and it writes the inactive one. -/
theorem activeBankIsNeverWritten : Obligations.ActiveBankIsNeverWritten := by
  intro s t h hnot
  rcases step_cases h with ⟨straps, stop, rest, hp, _⟩ | ⟨rest, hmeaning⟩
  · exact absurd hp (hnot straps stop rest)
  show activeBankKept (s.withPending rest) t
  cases hmeaning with
  | command data hd => exact activeBankKept_of_switched (command_switchedAtMost _ data _ _)
  | @request u heff m code tag r hr => exact (effect_activeBankKept heff : activeBankKept _ u)
  | events hchain =>
    exact activeBankKept_of_switched
      (hchain.related (fun _ => switchedAtMost_of_same rfl rfl) switchedAtMost_trans event_switchedAtMost)

end Sys2Proof.Machine
end

section
/-! The ports over every step, the neutral part in TRIPPED and LOCKOUT, and the one way a frame with motion comes about
(R1, R7 to R11, R94, R125, R161, R162). -/

namespace Sys2Proof.Machine

/-! ## One port -/

theorem countKind_perm {p : Port} {l : List Queued} (h : p.held.Perm l) (k : FrameKind) :
    p.countKind k = l.countP (fun q => decide (q.kind = k)) := h.countP_eq _

theorem portOk_queueOwn {node : BitVec 4} {id : PortId} {p : Port} {q : Queued} (hq : q.kind ∈ ownKinds id)
    (hfits : frameFits node id q) (hp : portOk node id p) : portOk node id (p.queueOwn q) := by
  rcases queueOwn_cases p q with ⟨_, h⟩ | ⟨_, hstate, hdrops, hheld, hoffer⟩
  · rwa [h]
  obtain ⟨_, _, hown, hfwd, hframes, hd⟩ := hp
  have hcount : ∀ k, (p.queueOwn q).countKind k ≤ if k = q.kind then 1 else p.countKind k := fun k => by
    rw [countKind_perm hheld, List.countP_append, List.countP_filter]
    split
    · rename_i hk
      subst hk
      simp
    · rename_i hk
      have hle : p.held.countP (fun x => decide (x.kind = k) && decide (x.kind ≠ q.kind)) ≤ p.countKind k :=
        List.countP_mono_left fun x _ hx => (Bool.and_eq_true_iff.1 hx).1
      simpa [Ne.symm hk] using hle
  refine ⟨fun h => ?_, hoffer, fun k hk => (hcount k).trans ?_, (hcount _).trans ?_, fun x hx => ?_, hdrops ▸ hd⟩
  · rw [hstate] at h
    cases h
  · split
    · exact le_rfl
    · exact hown k hk
  · have hne : FrameKind.forwarded ≠ q.kind := by
      rintro he
      rw [← he] at hq
      cases id <;> simp [ownKinds] at hq
    rwa [if_neg hne]
  · rcases List.mem_append.1 (hheld.subset hx) with hx | hx
    · exact hframes x (List.mem_of_mem_filter hx)
    · rwa [List.mem_singleton.1 hx]

theorem portOk_withDrops {node : BitVec 4} {id : PortId} {p : Port} (n : Nat) (hp : portOk node id p) :
    portOk node id { p with drops := addDrops p.drops n } := by
  obtain ⟨hoff, hoffer, hown, hfwd, hframes, _⟩ := hp
  exact ⟨hoff, hoffer, hown, hfwd, hframes, min_le_right _ _⟩

theorem portOk_queueForwarded {node : BitVec 4} {id : PortId} {p : Port} {f : Frame}
    (hf : isOwnIdent node f.ident = false) (hp : portOk node id p) :
    portOk node id (p.queueForwarded (forwardedPlaces id) f) := by
  rcases queueForwarded_cases p (forwardedPlaces id) f with ⟨_, hroom, hstate, hdrops, hheld, hoffer⟩ | ⟨_, h⟩
  · obtain ⟨_, _, hown, _, hframes, hd⟩ := hp
    refine ⟨fun h => ?_, hoffer, fun k hk => ?_, ?_, fun x hx => ?_, hdrops ▸ hd⟩
    · rw [hstate] at h
      cases h
    · have hne : FrameKind.forwarded ≠ k := by
        rintro rfl
        cases id <;> simp [ownKinds] at hk
      rw [countKind_perm hheld, List.countP_append]
      simpa [hne, Port.countKind] using hown k hk
    · rw [countKind_perm hheld, List.countP_append]
      simpa [Port.forwardedHeld] using hroom
    · rcases List.mem_append.1 (hheld.subset hx) with hx | hx
      · exact hframes x hx
      · rw [List.mem_singleton.1 hx]
        exact hf
  · rw [h]
    exact portOk_withDrops 1 hp

theorem portOk_empty (node : BitVec 4) (id : PortId) (st : PortState) {n : Nat} (hn : n ≤ 65535) :
    portOk node id { state := st, offer := none, waiting := [], drops := n } :=
  ⟨fun _ => rfl, fun _ => rfl, fun _ _ => Nat.zero_le _, Nat.zero_le _, fun _ h => (List.not_mem_nil h).elim, hn⟩

theorem portOk_complete {node : BitVec 4} {id : PortId} {p : Port} (hp : portOk node id p) : portOk node id p.complete := by
  rcases complete_cases p with ⟨_, h⟩ | ⟨q, hq, hstate, hdrops, hheld, hoffer⟩
  · rwa [h]
  obtain ⟨hoff, _, hown, hfwd, hframes, hd⟩ := hp
  have hsub : p.waiting.Sublist p.held := List.sublist_append_right _ _
  have hcount : ∀ k, p.complete.countKind k ≤ p.countKind k := fun k => by
    rw [countKind_perm hheld]
    exact hsub.countP_le
  have honline : p.state = .online := by
    cases h : p.state
    · rfl
    · have hempty := hoff h
      simp [Port.held, hq] at hempty
  refine ⟨fun h => ?_, hoffer honline, fun k hk => (hcount k).trans (hown k hk), (hcount _).trans hfwd, fun x hx =>
    hframes x (hsub.subset (hheld.subset hx)), hdrops ▸ hd⟩
  rw [hstate, honline] at h
  cases h

theorem portOk_fail {node : BitVec 4} {id : PortId} {p : Port} (hp : portOk node id p) : portOk node id p.fail := by
  cases h : p.state
  · rw [fail_online h]
    exact portOk_empty node id _ (min_le_right _ _)
  · rwa [fail_offline h]

theorem portOk_recover {node : BitVec 4} {id : PortId} {p : Port} (hp : portOk node id p) : portOk node id p.recover := by
  cases h : p.state
  · rwa [recover_online h]
  · rw [recover_offline h]
    obtain ⟨_, _, _, _, _, hd⟩ := hp
    exact portOk_empty node id _ hd

/-! ## The own frames (Tables 1-3, 11-1 to 11-3) -/

theorem ownFrame_fits {node : BitVec 4} {id : PortId} {k : FrameKind} {data : List Byte} (hk : k ∈ ownKinds id)
    (hlen : data.length = 8) : frameFits node id (ownFrame node k data) := by
  cases id <;> cases k <;> simp [ownKinds] at hk <;> simp [frameFits, ownFrame, ownKinds, kindIdent, hlen]

theorem replyData_length (code : Nat) (tag : Byte) {r : Reply} (hr : r.data.length ≤ 6) :
    (replyData code tag r).length = 8 := by
  simp only [replyData, padTo, List.length_append, List.length_cons, List.length_nil, List.length_replicate]
  omega

/-- The Drive Port before and after: as it was, or a drive setpoint frame has been queued. -/
theorem portOk_queueDrive {node : BitVec 4} {p : Port} (sp : PerChannel Int) (f : LimitFlags) (q : Byte)
    (hp : portOk node .drive p) :
    portOk node .drive (p.queueOwn (ownFrame node .driveSetpoint (setpointData sp f q))) :=
  portOk_queueOwn (by simp [ownFrame, ownKinds]) (ownFrame_fits (by simp [ownKinds]) rfl) hp

theorem portOk_queueCab {node : BitVec 4} {p : Port} {k : FrameKind} {data : List Byte} (hk : k ∈ ownKinds .cab)
    (hlen : data.length = 8) (hp : portOk node .cab p) : portOk node .cab (p.queueOwn (ownFrame node k data)) :=
  portOk_queueOwn hk (ownFrame_fits hk hlen) hp

/-! ## Both ports through the shared operations -/

theorem portsOk_of_frame {l : List Block} {s t : State} (h : unchangedExcept l s t) (hn : Block.node ∉ l)
    (hc : Block.cab ∉ l) (hd : Block.drive ∉ l) (hs : portsOk s) : portsOk t := by
  have hnode : t.node = s.node := h.2 .node hn
  have hcab : t.cab = s.cab := h.2 .cab hc
  have hdrive : t.drive = s.drive := h.2 .drive hd
  unfold portsOk
  rwa [hnode, hcab, hdrive]

/-- A port replaced by one in its form. -/
theorem portsOk_withPort {s : State} {id : PortId} {p : Port} (hp : portOk s.node id p) (hs : portsOk s) :
    portsOk (s.withPort id p) := by
  obtain ⟨hcab, hdrive⟩ := hs
  cases id
  · exact ⟨hp, hdrive⟩
  · exact ⟨hcab, hp⟩

theorem portsOk_port {s : State} (hs : portsOk s) (id : PortId) : portOk s.node id (s.port id) := by
  cases id
  · exact hs.1
  · exact hs.2

theorem portsOk_queueDrive {s : State} (sp : PerChannel Int) (f : LimitFlags) (q : Byte) (hs : portsOk s) :
    portsOk (s.queueDrive sp f q) := ⟨hs.1, portOk_queueDrive sp f q hs.2⟩

theorem portsOk_queueCab {s : State} {k : FrameKind} {data : List Byte} (hk : k ∈ ownKinds .cab)
    (hlen : data.length = 8) (hs : portsOk s) : portsOk (s.queueCab k data) := ⟨portOk_queueCab hk hlen hs.1, hs.2⟩

theorem portsOk_zeroFrame {s : State} (hs : portsOk s) : portsOk s.zeroFrame :=
  portsOk_of_frame (followFrame_frame _ _) (by decide) (by decide) (by decide)
    (portsOk_of_frame (withPrev_frame _ _) (by decide) (by decide) (by decide) (portsOk_queueDrive _ _ _ hs))

theorem portsOk_goNeutral {s : State} (hs : portsOk s) : portsOk s.goNeutral :=
  portsOk_of_frame (biteOutsideAbort_frame _) (by decide) (by decide) (by decide) (portsOk_zeroFrame hs)

theorem portsOk_reportTrip {s : State} (c : Cause) (hs : portsOk s) : portsOk (s.reportTrip c) := by
  rcases reportTrip_cases s c with ⟨_, h⟩ | ⟨_, _, h⟩ | ⟨_, _, h⟩ <;> rw [h]
  · exact hs
  · exact portsOk_goNeutral hs
  · exact portsOk_goNeutral hs

theorem portsOk_emit {s : State} (sp : PerChannel Int) (f : LimitFlags) (q : Byte) (hs : portsOk s) :
    portsOk (s.emit sp f q) := by
  have hfollow : ∀ u x, portsOk u → portsOk ((u.withPrev sp).followFrame x) := fun u x hu =>
    portsOk_of_frame (followFrame_frame _ _) (by decide) (by decide) (by decide)
      (portsOk_of_frame (withPrev_frame _ _) (by decide) (by decide) (by decide) hu)
  unfold State.emit
  split
  · exact hfollow _ _ (portsOk_queueDrive _ _ _ hs)
  · exact hfollow _ _ (portsOk_queueDrive _ _ _ (portsOk_queueCab (by simp [ownKinds]) rfl hs))

theorem portsOk_command {s : State} (data : List Byte) (r : PerChannel Int) (q : Byte) (hs : portsOk s) :
    portsOk ((s.handedOff data).conditionCommand r q) :=
  portsOk_emit _ _ _ (portsOk_of_frame (applyStall_frame _ _) (by decide) (by decide) (by decide)
    (portsOk_of_frame (handedOff_frame s data) (by decide) (by decide) (by decide) hs))

theorem portsOk_reportCauses {s : State} (hs : portsOk s) : portsOk s.reportStopLine.reportDriveLink := by
  have hreport : ∀ (u : State) (p : Prop) [Decidable p] (c : Cause), portsOk u →
      portsOk (if p then u.reportTrip c else u) := fun u p _ c hu => by
    split
    · exact portsOk_reportTrip c hu
    · exact hu
  exact hreport _ _ _ (hreport s _ _ hs)

theorem restartBlocks_ports (s : State) :
    s.restartBlocks.node = s.node ∧ s.restartBlocks.cab = s.cab ∧ s.restartBlocks.drive = s.drive := by
  have hblocks := restartBlocks_afterAbort s
  have habort := biteOutsideAbort_frame s.restartBanks
  exact ⟨(hblocks.2 .node (by decide)).trans (habort.2 .node (by decide)),
    (hblocks.2 .cab (by decide)).trans (habort.2 .cab (by decide)),
    (hblocks.2 .drive (by decide)).trans (habort.2 .drive (by decide))⟩

theorem portsOk_restart {s : State} (hs : portsOk s) : portsOk s.restart := by
  refine portsOk_reportCauses ?_
  obtain ⟨hnode, hcab, hdrive⟩ := restartBlocks_ports s
  unfold portsOk
  rwa [hnode, hcab, hdrive]

theorem fullReset_portsOk (rest : List Instr) (straps : BitVec 4) (stop : StopLevel) :
    portsOk (State.fullReset rest straps stop).reportStopLine := by
  have hreset : portsOk (State.fullReset rest straps stop) :=
    ⟨portOk_empty _ _ _ (by decide), portOk_empty _ _ _ (by decide)⟩
  unfold State.reportStopLine
  split
  · exact portsOk_reportTrip _ hreset
  · exact hreset

theorem event_portsOk {s t : State} (h : Event s t) (hs : portsOk s) : portsOk t := by
  cases h with
  | wait | millisecond | report | stopReleased => exact hs
  | reply m code tag r hr => exact portsOk_queueCab (by cases m <;> simp [replyKind, ownKinds]) (replyData_length code tag hr) hs
  | sample i v => exact portsOk_of_frame (takeSample_frame s i v) (by decide) (by decide) (by decide) hs
  | forward port f hf => exact portsOk_withPort (portOk_queueForwarded hf (portsOk_port hs _)) hs
  | complete port => exact portsOk_withPort (portOk_complete (portsOk_port hs port)) hs
  | recover port => exact portsOk_withPort (portOk_recover (portsOk_port hs port)) hs
  | fail port ho =>
    have hfailed := portsOk_withPort (portOk_fail (portsOk_port hs port)) hs
    cases port
    · exact hfailed
    · exact portsOk_reportTrip _ hfailed
  | commandAbsent =>
    refine portsOk_of_frame (biteOutsideAbort_frame _) (by decide) (by decide) (by decide) ?_
    exact portsOk_zeroFrame (s := s.withCommandTimer s.link.cmdTimeout) hs
  | slotAbsent i => exact portsOk_of_frame (slotAbsent_frame s i) (by decide) (by decide) (by decide) hs
  | noProgress => exact portsOk_of_frame (noProgress_frame s) (by decide) (by decide) (by decide) hs
  | settleOver => exact portsOk_of_frame (settleOver_frame s) (by decide) (by decide) (by decide) hs
  | status => exact portsOk_queueCab (s := s.withStatusTimer s.link.statusPeriod) (by simp [ownKinds]) rfl hs
  | stopAsserted => exact portsOk_reportTrip (s := s.withStop .asserted) _ hs

/-- The effects of requests but the restart leave the node number and the ports (R146). -/
theorem effect_ports {s t : State} (h : Effect s t) :
    t = s.restart ∨ (t.node = s.node ∧ t.cab = s.cab ∧ t.drive = s.drive) := by
  have hframe : ∀ {l : List Block}, unchangedExcept l s t → Block.node ∉ l → Block.cab ∉ l → Block.drive ∉ l →
      t = s.restart ∨ (t.node = s.node ∧ t.cab = s.cab ∧ t.drive = s.drive) := fun hf hn hc hd =>
    .inr ⟨hf.2 .node hn, hf.2 .cab hc, hf.2 .drive hd⟩
  cases h with
  | none | writeRoute | writeLink | openBank | switchWaits | switchActs | cancel | channelMode | linkMode =>
    exact .inr ⟨rfl, rfl, rfl⟩
  | writeBank m bank i v hb hp =>
    exact hframe (unchangedExcept_comp (withBanks_frame s _) (afterBankWrite_frame _ m bank)
      (List.subset_append_left _ _) (List.subset_append_right _ _)) (by decide) (by decide) (by decide)
  | writeMap i v hmode => exact hframe (writeMap_frame s _ _ i) (by decide) (by decide) (by decide)
  | writeSignal i j v hw => exact hframe (writeSlotItem_frame hw) (by decide) (by decide) (by decide)
  | commitMap hmode hv => exact hframe (commitMap_frame s) (by decide) (by decide) (by decide)
  | ack c hl hh ha =>
    exact hframe (unchangedExcept_comp (withFaults_frame s _) (clearLatch_frame _ c)
      (List.subset_append_left _ _) (List.subset_append_right _ _)) (by decide) (by decide) (by decide)
  | restart hl => exact .inl rfl

theorem effect_portsOk {s t : State} (h : Effect s t) (hs : portsOk s) : portsOk t := by
  rcases effect_ports h with rfl | ⟨hnode, hcab, hdrive⟩
  · exact portsOk_restart hs
  · unfold portsOk
    rwa [hnode, hcab, hdrive]

/-! ## Frames that carry no motion (R91, R94) -/

/-- Every drive setpoint frame that a port holds carries three zeros. -/
def Port.motionless (p : Port) : Prop := ∀ q ∈ p.held, carriesNoMotion q

theorem zeroData_noMotion (node : BitVec 4) (f : LimitFlags) (seq : Byte) :
    carriesNoMotion (ownFrame node .driveSetpoint (setpointData zeroSetpoints f seq)) := fun _ => rfl

/-- A drive setpoint frame takes the place of the one before, so a zero frame leaves an ONLINE port without motion. -/
theorem motionless_queueOwn {node : BitVec 4} {p : Port} {q : Queued} (hk : q.kind = .driveSetpoint)
    (hq : carriesNoMotion q) (hp : portOk node .drive p) : (p.queueOwn q).motionless := by
  intro x hx
  rcases queueOwn_cases p q with ⟨hoff, h⟩ | ⟨_, _, _, hheld, _⟩
  · rw [h, hp.1 hoff] at hx
    exact (List.not_mem_nil hx).elim
  · rcases List.mem_append.1 (hheld.subset hx) with hx | hx
    · have hne := (List.mem_filter.1 hx).2
      rw [hk] at hne
      exact fun he => absurd he (by simpa using hne)
    · rwa [List.mem_singleton.1 hx]

/-- Every frame that is new on the Drive Port carries no motion. -/
def noNewMotion (s t : State) : Prop := ∀ q ∈ t.drive.held, q ∈ s.drive.held ∨ carriesNoMotion q

theorem noNewMotion_of_same {s t : State} (h : t.drive = s.drive) : noNewMotion s t := fun _ hq => .inl (h ▸ hq)

theorem noNewMotion_trans {s t u : State} (h₁ : noNewMotion s t) (h₂ : noNewMotion t u) : noNewMotion s u := fun q hq =>
  (h₂ q hq).elim (h₁ q) .inr

theorem noNewMotion_motionless {s t : State} (h : noNewMotion s t) (hs : s.drive.motionless) : t.drive.motionless :=
  fun q hq => (h q hq).elim (hs q) id

/-- A queued drive setpoint frame is the one frame that is new. -/
theorem mem_queueOwn {p : Port} {q x : Queued} (hx : x ∈ (p.queueOwn q).held) : x ∈ p.held ∨ x = q := by
  rcases queueOwn_cases p q with ⟨_, h⟩ | ⟨_, _, _, hheld, _⟩
  · exact .inl (h ▸ hx)
  · rcases List.mem_append.1 (hheld.subset hx) with hx | hx
    · exact .inl (List.mem_of_mem_filter hx)
    · exact .inr (List.mem_singleton.1 hx)

theorem noNewMotion_of_queueOwn {s t : State} {q : Queued} (h : t.drive = s.drive.queueOwn q) (hq : carriesNoMotion q) :
    noNewMotion s t := fun x hx => by
  rw [h] at hx
  exact (mem_queueOwn hx).imp_right (by rintro rfl; exact hq)

theorem reportTrip_drive (s : State) (c : Cause) : (s.reportTrip c).drive = s.drive ∨
    (s.reportTrip c).drive = s.drive.queueOwn (ownFrame s.node .driveSetpoint
      (setpointData zeroSetpoints .zeroFrame s.lastSeq)) := by
  rcases reportTrip_cases s c with ⟨_, h⟩ | ⟨_, _, h⟩ | ⟨_, _, h⟩ <;> rw [h]
  · exact .inl rfl
  · exact .inr (by rw [goNeutral_drive, zeroFrame_drive]; rfl)
  · exact .inr (by rw [goNeutral_drive, zeroFrame_drive]; rfl)

theorem noNewMotion_reportTrip (s : State) (c : Cause) : noNewMotion s (s.reportTrip c) := by
  rcases reportTrip_drive s c with h | h
  · exact noNewMotion_of_same h
  · exact noNewMotion_of_queueOwn h (zeroData_noMotion _ _ _)

theorem noNewMotion_reportCauses (s : State) : noNewMotion s s.reportStopLine.reportDriveLink := by
  have hreport : ∀ (u : State) (p : Prop) [Decidable p] (c : Cause), noNewMotion u (if p then u.reportTrip c else u) :=
    fun u p _ c => by
      split
      · exact noNewMotion_reportTrip u c
      · exact noNewMotion_of_same rfl
  exact noNewMotion_trans (hreport s _ _) (hreport _ _ _)

theorem effect_noNewMotion {s t : State} (h : Effect s t) : noNewMotion s t := by
  rcases effect_ports h with rfl | ⟨_, _, hdrive⟩
  · exact noNewMotion_trans (noNewMotion_of_same (restartBlocks_ports s).2.2) (noNewMotion_reportCauses _)
  · exact noNewMotion_of_same hdrive

theorem mem_queueForwarded {p : Port} {n : Nat} {f : Frame} {x : Queued} (hx : x ∈ (p.queueForwarded n f).held) :
    x ∈ p.held ∨ x = { kind := .forwarded, frame := f } := by
  rcases queueForwarded_cases p n f with ⟨_, _, _, _, hheld, _⟩ | ⟨_, h⟩
  · rcases List.mem_append.1 (hheld.subset hx) with hx | hx
    · exact .inl hx
    · exact .inr (List.mem_singleton.1 hx)
  · rw [h] at hx
    exact .inl hx

theorem complete_held_subset (p : Port) : p.complete.held ⊆ p.held := by
  intro x hx
  rcases complete_cases p with ⟨_, h⟩ | ⟨_, _, _, _, hheld, _⟩
  · rwa [h] at hx
  · exact List.mem_append_right _ (hheld.subset hx)

theorem fail_held_subset (p : Port) : p.fail.held ⊆ p.held := by
  cases h : p.state
  · rw [fail_online h]; exact List.nil_subset _
  · rw [fail_offline h]; exact List.Subset.refl _

theorem recover_held_subset (p : Port) : p.recover.held ⊆ p.held := by
  cases h : p.state
  · rw [recover_online h]; exact List.Subset.refl _
  · rw [recover_offline h]; exact List.nil_subset _

theorem event_noNewMotion {s t : State} (h : Event s t) : noNewMotion s t := by
  have hframe : ∀ {l : List Block}, unchangedExcept l s t → Block.drive ∉ l → noNewMotion s t := fun hf hd =>
    noNewMotion_of_same (hf.2 .drive hd)
  cases h with
  | wait | millisecond | report | stopReleased | reply | status => exact noNewMotion_of_same rfl
  | sample i v => exact hframe (takeSample_frame s i v) (by decide)
  | forward port f hf =>
    cases port
    · exact fun q hq => (mem_queueForwarded hq).imp_right (by rintro rfl hk; cases hk)
    · exact noNewMotion_of_same rfl
  | complete port =>
    cases port
    · exact noNewMotion_of_same rfl
    · exact fun q hq => .inl (complete_held_subset _ hq)
  | recover port =>
    cases port
    · exact noNewMotion_of_same rfl
    · exact fun q hq => .inl (recover_held_subset _ hq)
  | fail port ho =>
    cases port
    · exact noNewMotion_of_same rfl
    · exact noNewMotion_trans (t := s.withDrive s.drive.fail) (fun q hq => .inl (fail_held_subset _ hq))
        (noNewMotion_reportTrip _ _)
  | commandAbsent => exact noNewMotion_of_queueOwn (commandAbsent_drive s) (zeroData_noMotion _ _ _)
  | slotAbsent i => exact hframe (slotAbsent_frame s i) (by decide)
  | noProgress => exact hframe (noProgress_frame s) (by decide)
  | settleOver => exact hframe (settleOver_frame s) (by decide)
  | stopAsserted => exact noNewMotion_reportTrip (s.withStop .asserted) _

/-! ## What a taken command sends while the governor is not READY (R87, R88) -/

theorem runStages_sent_of_forced {x : StageInput} (h : x.forced = PerChannel.const true) :
    (runStages x).sent = zeroSetpoints := by
  simp only [runStages, h, PerChannel.const, ChannelResult.sent, if_true]
  rfl

/-- No channel is sent motion unless the governor is READY (R88). -/
theorem stageOutput_sent_of_not_ready {s : State} (h : s.governor ≠ .ready) (r : PerChannel Int) :
    (s.stageOutput r).sent = zeroSetpoints := by
  unfold State.stageOutput
  split
  · exact runStages_sent_of_forced (by simp [State.stageInput, PerChannel.tabulate, PerChannel.const, State.channelForced, h])
  · rfl

theorem governor_of_frame {n : Nat} {l : List Block} {s t : State} (h : unchangedExcept l s t)
    (hf : Noted n s.faults t.faults) (hb : Block.banks ∉ l) (ht : Block.tracker ∉ l) : t.governor = s.governor := by
  have hbanks : t.banks = s.banks := h.2 .banks hb
  have htracker : t.tracker = s.tracker := h.2 .tracker ht
  simp only [State.governor, hbanks, htracker, hf.lockout, hf.tripPending]

/-- Settles O24: only the conditioned frame of a command taken in NORMAL can carry motion, and it carries none unless the
governor is READY; nothing after it in the step changes either. -/
theorem motionOnlyWhenReadyAndNormal : Obligations.MotionOnlyWhenReadyAndNormal := by
  intro s t q h hq hkind hnew
  have hquiet : ∀ {u : State}, u.drive = s.drive → noNewMotion u t →
      q.frame.data.take 6 = [0, 0, 0, 0, 0, 0] ∨ (t.governor = .ready ∧ t.chan.linkMode = .normal) := fun hu hm =>
    (hm q hq).elim (fun hold => absurd (hu ▸ hold) hnew) (fun hzero => .inl (hzero hkind))
  rcases step_cases h with ⟨straps, stop, rest, _, rfl⟩ | ⟨rest, hmeaning⟩
  · refine ((?_ : noNewMotion (State.fullReset rest straps stop) _) q hq).elim (fun hold => (List.not_mem_nil hold).elim)
      (fun hzero => .inl (hzero hkind))
    unfold State.reportStopLine
    split
    · exact noNewMotion_reportTrip _ _
    · exact noNewMotion_of_same rfl
  cases hmeaning with
  | command data hd =>
    have hchan := command_chan (s.withPending rest) data (commandRequests data) (commandSeq data)
    have hframe := conditionCommand_frame ((s.withPending rest).handedOff data) (commandRequests data) (commandSeq data)
    have hgovernor := governor_of_frame hframe (conditionCommand_noted _ _ _) (by decide) (by decide)
    have hsame : ((s.withPending rest).handedOff data).drive = s.drive :=
      (handedOff_frame (s.withPending rest) data).2 .drive (by decide)
    have hdrive := conditionCommand_drive ((s.withPending rest).handedOff data) (commandRequests data) (commandSeq data)
    rw [(handedOff_frame (s.withPending rest) data).2 .chan (by decide), State.withPending_chan] at hdrive
    cases hmode : s.chan.linkMode with
    | loopback =>
      rw [hmode] at hdrive
      exact hquiet hsame (noNewMotion_of_queueOwn hdrive (zeroData_noMotion _ _ _))
    | normal =>
      by_cases hready : ((s.withPending rest).handedOff data).governor = .ready
      · exact .inr ⟨hgovernor.trans hready, by rw [hchan]; exact hmode⟩
      · rw [stageOutput_sent_of_not_ready hready, hmode] at hdrive
        exact hquiet hsame (noNewMotion_of_queueOwn hdrive (zeroData_noMotion _ _ _))
  | @request u heff m code tag r hr =>
    exact hquiet (u := s.withPending rest) rfl
      (noNewMotion_trans (effect_noNewMotion heff) (event_noNewMotion (.reply u m code tag r hr)))
  | events hchain =>
    exact hquiet (u := s.withPending rest) rfl
      (hchain.related (fun _ => noNewMotion_of_same rfl) noNewMotion_trans event_noNewMotion)

end Sys2Proof.Machine
end

section
/-! The neutral part in TRIPPED and LOCKOUT over every step (R94, R125, R161, R162), and the statements on the transmit
queues (R7, R9). -/

namespace Sys2Proof.Machine

/-! ## A bite that is not open stays so but for START -/

theorem biteTrackerChange_idle {s : State} (h : s.bite.state = .idle) : s.biteTrackerChange = s := by
  simp [State.biteTrackerChange, h]

theorem biteHeadTest_idle {s : State} (h : s.bite.state = .idle) : s.biteHeadTest = s := by
  simp [State.biteHeadTest, h]

theorem biteDepth_idle {s : State} (h : s.bite.state = .idle) : s.biteDepth = s := by
  simp [State.biteDepth, h]

theorem biteSlotEvent_idle {s : State} (i : SlotId) (c : Bool) (h : s.bite.state = .idle) :
    (s.biteSlotEvent i c).bite.state = .idle := by
  have hchange : (if c = true then s.biteTrackerChange else s) = s := by
    split
    · exact biteTrackerChange_idle h
    · rfl
  unfold State.biteSlotEvent
  simp only [hchange, biteHeadTest_idle h, biteDepth_idle h]
  split_ifs <;> exact h

theorem slotEvent_idle {s : State} (i : SlotId) (h : s.bite.state = .idle) : (s.slotEvent i).bite.state = .idle := by
  have htracked : (s.trackerSlotEvent i).bite.state = .idle := by rwa [(trackerSlotEvent_frame s i).2 .bite (by decide)]
  have hbitten := biteSlotEvent_idle i (trackerChanged s.kelly.items s.tracker (s.trackerSlotEvent i).tracker) htracked
  unfold State.slotEvent
  dsimp only
  split
  · rwa [(overloadTest_frame _).2 .bite (by decide)]
  · exact hbitten

theorem deliverSlot_idle {s : State} (i : SlotId) (h : s.bite.state = .idle) : (s.deliverSlot i).bite.state = .idle :=
  slotEvent_idle i (by rwa [(refreshDerived_frame s i).2 .bite (by decide)])

theorem takeSample_idle {s : State} (i : SlotId) (v : Int) (h : s.bite.state = .idle) :
    (s.takeSample i v).bite.state = .idle :=
  deliverSlot_idle i (by rwa [(storeSlot_frame s i _).2 .bite (by decide)])

theorem judgeSlot_idle {s : State} (i : SlotId) (r : Slot) (h : s.bite.state = .idle) :
    (s.judgeSlot i r).bite.state = .idle := by
  have hstored : (s.storeSlot i r).bite.state = .idle := by rwa [(storeSlot_frame s i r).2 .bite (by decide)]
  unfold State.judgeSlot
  dsimp only
  split
  · exact hstored
  · exact deliverSlot_idle i hstored

theorem writeSlotItem_idle {s t : State} {i : SlotId} {j : Nat} {v : Int} (hw : s.writeSlotItem i j v = some t)
    (h : s.bite.state = .idle) : t.bite.state = .idle := by
  rcases writeSlotItem_cases hw with ⟨on, _, _, rfl⟩ | ⟨on, _, _, rfl⟩ | ⟨c, _, rfl⟩
  · exact judgeSlot_idle i _ h
  · exact judgeSlot_idle i _ h
  · unfold State.configureSlot
    dsimp only
    split
    · exact h
    · exact deliverSlot_idle (s := s.withSignal _) i h

theorem deliverTrackerChange_idle {s : State} (x : TrackerMode) (h : s.bite.state = .idle) :
    (s.deliverTrackerChange x).bite.state = .idle := by
  unfold State.deliverTrackerChange
  split
  · exact h
  · rwa [biteTrackerChange_idle h]

/-- With no bite open and the governor not READY every action but NONE is refused (R72, R115, R123, R124). -/
theorem biteAction_not_ready {s : State} (a : Action) (hidle : s.bite.state = .idle) (hg : s.governor ≠ .ready) :
    s.biteAction a = s ∨ s.biteAction a = s.record .actionRefused := by
  cases a with
  | none => exact .inl rfl
  | start => exact .inr (by simp [State.biteAction, State.biteStart, hg])
  | abort => exact .inr (by simp [State.biteAction, State.biteAbortAction, hidle])
  | resume => exact .inr (by simp [State.biteAction, State.biteResume, hidle])

theorem handedOff_not_ready {s : State} (data : List Byte) (hidle : s.bite.state = .idle) (hg : s.governor ≠ .ready) :
    (s.handedOff data).bite.state = .idle := by
  unfold State.handedOff State.handOff
  split
  · exact hidle
  · rename_i a _
    split
    · rcases biteAction_not_ready (s := s.acceptCommand data) a hidle hg with h | h <;> rw [h] <;> exact hidle
    · exact hidle

theorem biteOutsideAbort_idle (s : State) : s.biteOutsideAbort.bite.state = .idle := by
  unfold State.biteOutsideAbort
  split
  · assumption
  · rw [biteEnd_bite]

/-! ## The part at rest -/

/-- TRIPPED or LOCKOUT (R161, R162). -/
def tripped (m : FaultMonitor) : Prop := m.tripPending = true ∨ m.lockout = true

/-- No bite is open, the previous setpoints are 0, and the Drive Port holds no frame with motion. -/
def atRest (s : State) : Prop := s.bite.state = .idle ∧ s.cond.prev = zeroSetpoints ∧ s.drive.motionless

theorem neutralOk_iff (s : State) : neutralOk s ↔ (tripped s.faults → atRest s) := Iff.rfl

theorem governor_of_tripped {s : State} (h : tripped s.faults) : s.governor ≠ .ready := by
  unfold State.governor
  rcases h with h | h <;> rw [h]
  · split <;> simp
  · simp

theorem tripped_of_noted {n : Nat} {m k : FaultMonitor} (h : Noted n m k) (hk : tripped k) : tripped m := by
  unfold tripped at hk ⊢
  rwa [h.tripPending, h.lockout] at hk

/-- What keeps the part neutral: no trip of its own, and at rest it brings in no bite, no setpoint and no motion. -/
theorem neutralOk_of_kept {n : Nat} {s t : State} (hf : Noted n s.faults t.faults)
    (hb : s.bite.state = .idle → t.bite.state = .idle) (hp : t.cond.prev = s.cond.prev ∨ t.cond.prev = zeroSetpoints)
    (hm : noNewMotion s t) (hs : neutralOk s) : neutralOk t := fun ht => by
  obtain ⟨hidle, hprev, hquiet⟩ := hs (tripped_of_noted hf ht)
  exact ⟨hb hidle, hp.elim (fun h => h.trans hprev) id, noNewMotion_motionless hm hquiet⟩

theorem neutralOk_of_frame {n : Nat} {l : List Block} {s t : State} (hf : Noted n s.faults t.faults)
    (h : unchangedExcept l s t) (hc : Block.cond ∉ l) (hd : Block.drive ∉ l)
    (hb : s.bite.state = .idle → t.bite.state = .idle) (hs : neutralOk s) : neutralOk t :=
  neutralOk_of_kept hf hb (.inl (by rw [h.2 .cond hc])) (noNewMotion_of_same (h.2 .drive hd)) hs

theorem zeroFrame_prev (s : State) : s.zeroFrame.cond = { s.cond with prev := zeroSetpoints } := by
  rw [State.zeroFrame, (followFrame_frame _ _).2 .cond (by decide)]
  rfl

theorem goNeutral_cond (s : State) : s.goNeutral.cond = { s.cond with prev := zeroSetpoints } :=
  ((biteOutsideAbort_frame _).2 .cond (by decide)).trans (zeroFrame_prev s)

/-- The outputs go to neutral (R161, R162): the zero frame takes the place of an unsent frame with motion. -/
theorem goNeutral_atRest {s : State} (hs : portsOk s) : atRest s.goNeutral := by
  refine ⟨biteOutsideAbort_idle _, by rw [goNeutral_cond], ?_⟩
  rw [goNeutral_drive, zeroFrame_drive]
  exact motionless_queueOwn rfl (zeroData_noMotion _ _ _) hs.2

theorem neutralOk_reportTrip {s : State} (c : Cause) (hp : portsOk s) (hs : neutralOk s) : neutralOk (s.reportTrip c) := by
  rcases reportTrip_cases s c with ⟨_, h⟩ | ⟨_, _, h⟩ | ⟨_, _, h⟩ <;> rw [h]
  · exact hs
  · exact fun _ => goNeutral_atRest (s := (s.record c).withFaults _) hp
  · exact fun _ => goNeutral_atRest (s := (s.record c).withFaults _) hp

theorem neutralOk_reportCauses {s : State} (hp : portsOk s) (hs : neutralOk s) :
    neutralOk s.reportStopLine.reportDriveLink := by
  have hreport : ∀ (u : State) (p : Prop) [Decidable p] (c : Cause), portsOk u ∧ neutralOk u →
      portsOk (if p then u.reportTrip c else u) ∧ neutralOk (if p then u.reportTrip c else u) := fun u p _ c hu => by
    split
    · exact ⟨portsOk_reportTrip c hu.1, neutralOk_reportTrip c hu.1 hu.2⟩
    · exact hu
  exact (hreport _ _ _ (hreport s _ _ ⟨hp, hs⟩)).2

theorem commandAbsent_cond (s : State) : s.commandAbsent.cond = { s.cond with prev := zeroSetpoints } := by
  rw [State.commandAbsent, (biteOutsideAbort_frame _).2 .cond (by decide)]
  exact zeroFrame_prev (s.withCommandTimer s.link.cmdTimeout)

theorem event_neutralOk {s t : State} (h : Event s t) (hp : portsOk s) (hs : neutralOk s) : neutralOk t := by
  have hmotion := event_noNewMotion h
  cases h with
  | wait | millisecond | report | stopReleased | reply | status => exact hs
  | sample i v =>
    exact neutralOk_of_frame (takeSample_noted s i v) (takeSample_frame s i v) (by decide) (by decide)
      (takeSample_idle i v) hs
  | forward port f hf =>
    cases port <;> exact neutralOk_of_kept (s := s) (.none 0 _) id (.inl rfl) hmotion hs
  | complete port =>
    cases port <;> exact neutralOk_of_kept (s := s) (.none 0 _) id (.inl rfl) hmotion hs
  | recover port =>
    cases port <;> exact neutralOk_of_kept (s := s) (.none 0 _) id (.inl rfl) hmotion hs
  | fail port ho =>
    cases port
    · exact hs
    · refine neutralOk_reportTrip (s := s.withDrive s.drive.fail) _ (portsOk_withPort (portOk_fail hp.2) hp) ?_
      exact neutralOk_of_kept (s := s) (.none 0 _) id (.inl rfl) (fun q hq => .inl (fail_held_subset _ hq)) hs
  | commandAbsent =>
    exact neutralOk_of_kept (commandAbsent_noted s) (fun _ => biteOutsideAbort_idle _)
      (.inr (by rw [commandAbsent_cond])) hmotion hs
  | slotAbsent i =>
    exact neutralOk_of_frame (judgeSlot_noted s i _) (slotAbsent_frame s i) (by decide) (by decide)
      (judgeSlot_idle i _) hs
  | noProgress =>
    exact neutralOk_of_frame (noProgress_noted s) (noProgress_frame s) (by decide) (by decide)
      (fun h => by simp [State.noProgress, h]) hs
  | settleOver =>
    exact neutralOk_of_frame (settleOver_noted s) (settleOver_frame s) (by decide) (by decide)
      (fun h => by simp [State.settleOver, h]) hs
  | stopAsserted => exact neutralOk_reportTrip (s := s.withStop .asserted) _ hp hs

theorem effect_neutralOk {s t : State} (h : Effect s t) (hp : portsOk s) (hs : neutralOk s) : neutralOk t := by
  cases h with
  | none | writeRoute | writeLink | openBank | switchWaits | switchActs | cancel | channelMode => exact hs
  | linkMode x hi => exact neutralOk_of_kept (s := s) (.none 0 _) id (.inr rfl) (noNewMotion_of_same rfl) hs
  | writeBank m bank i v hb hpend =>
    have hframe := afterBankWrite_frame (s.withBanks (s.banks.withBank bank ((s.banks.bank bank).setIfInBounds i v))) m bank
    refine neutralOk_of_frame (n := 0) (s := s.withBanks _) ?_ hframe (by decide) (by decide) ?_ hs
    · rw [hframe.2 .faults (by decide)]; exact .none 0 _
    · rw [hframe.2 .bite (by decide)]; exact id
  | writeMap i v hmode =>
    refine neutralOk_of_frame (bankWork_noted (writeMap_bankWork s _ _ i)) (writeMap_frame s _ _ i) (by decide) (by decide)
      (fun hidle => ?_) hs
    rw [(refreshMapped_frame _ i).2 .bite (by decide)]
    exact deliverTrackerChange_idle _ hidle
  | writeSignal i j v hw =>
    exact neutralOk_of_frame (writeSlotItem_noted hw) (writeSlotItem_frame hw) (by decide) (by decide)
      (writeSlotItem_idle hw) hs
  | commitMap hmode hv =>
    refine neutralOk_of_frame (bankWork_noted (commitMap_bankWork s)) (commitMap_frame s) (by decide) (by decide)
      (fun hidle => deliverTrackerChange_idle _ hidle) hs
  | ack c hl hh ha =>
    have hframe := clearLatch_frame (s.withFaults (s.faults.remove c)) c
    intro ht
    rw [hframe.2 .faults (by decide)] at ht
    have hbefore : tripped s.faults := by
      refine ht.imp (fun h => ?_) id
      simp only [State.withFaults_faults, FaultMonitor.remove] at h
      split at h
      · cases h
      · exact h
    obtain ⟨hidle, hprev, hquiet⟩ := hs hbefore
    refine ⟨?_, ?_, ?_⟩
    · rwa [hframe.2 .bite (by decide)]
    · rwa [hframe.2 .cond (by decide)]
    · rwa [hframe.2 .drive (by decide)]
  | restart hl =>
    obtain ⟨hnode, hcab, hdrive⟩ := restartBlocks_ports s
    refine neutralOk_reportCauses (by unfold portsOk; rwa [hnode, hcab, hdrive]) fun ht => ?_
    rw [restartBlocks_faults, hl] at ht
    rcases ht with ht | ht <;> cases ht

theorem command_neutralOk {s : State} (data : List Byte) (r : PerChannel Int) (seq : Byte) (hs : neutralOk s) :
    neutralOk ((s.handedOff data).conditionCommand r seq) := fun ht => by
  have htripped := tripped_of_noted (conditionCommand_noted _ r seq) ht
  obtain ⟨hidle, _, hquiet⟩ := hs (tripped_of_noted (handedOff_noted s data) htripped)
  have hg := governor_of_tripped htripped
  have hsent := stageOutput_sent_of_not_ready hg r
  refine ⟨?_, ?_, ?_⟩
  · rw [(conditionCommand_frame _ r seq).2 .bite (by decide)]
    exact handedOff_not_ready data hidle (governor_of_tripped (tripped_of_noted (handedOff_noted s data) htripped))
  · rw [conditionCommand_cond]
    exact hsent
  · refine noNewMotion_motionless (s := s.handedOff data) (noNewMotion_of_queueOwn (conditionCommand_drive _ r seq) ?_) ?_
    · rw [hsent]
      cases (s.handedOff data).chan.linkMode <;> exact zeroData_noMotion _ _ _
    · rwa [(handedOff_frame s data).2 .drive (by decide)]

theorem fullReset_neutralOk (rest : List Instr) (straps : BitVec 4) (stop : StopLevel) :
    neutralOk (State.fullReset rest straps stop).reportStopLine := by
  have hports : portsOk (State.fullReset rest straps stop) :=
    ⟨portOk_empty _ _ _ (by decide), portOk_empty _ _ _ (by decide)⟩
  have hneutral : neutralOk (State.fullReset rest straps stop) := fun ht => by
    simp [State.fullReset, FaultMonitor.reset] at ht
  unfold State.reportStopLine
  split
  · exact neutralOk_reportTrip _ hports hneutral
  · exact hneutral

/-- Settles O56: each own kind keeps its one place, so the zero frame of a trip leaves no motion on the Drive Port, and a
governor that is not READY opens no bite and sends none. -/
theorem portsAndNeutralKept : Obligations.PortsAndNeutralKept := by
  intro s t h hs
  refine ⟨step_keeps fullReset_portsOk (fun s data _ => portsOk_command data _ _) effect_portsOk event_portsOk h hs,
    fun hneutral => ?_⟩
  exact (step_keeps (P := fun s => portsOk s ∧ neutralOk s)
    (fun rest straps stop => ⟨fullReset_portsOk rest straps stop, fullReset_neutralOk rest straps stop⟩)
    (fun s data _ ⟨hp, hn⟩ => ⟨portsOk_command data _ _ hp, command_neutralOk data _ _ hn⟩)
    (fun he ⟨hp, hn⟩ => ⟨effect_portsOk he hp, effect_neutralOk he hp hn⟩)
    (fun he ⟨hp, hn⟩ => ⟨event_portsOk he hp, event_neutralOk he hp hn⟩) h ⟨hs, hneutral⟩).2

/-! ## The transmit queues (R7, R9) -/

/-- Settles O9: the frame of its kind is taken out, the new one waits at the end, and where none stays on offer the lowest
identifier is chosen. -/
theorem ownFrameTakesItsKindsPlace : Obligations.OwnFrameTakesItsKindsPlace := by
  intro node id p q _
  refine ⟨fun hoff => by simp [Port.queueOwn, hoff], fun hon => ?_⟩
  rcases queueOwn_cases p q with ⟨hoff, _⟩ | ⟨_, hstate, hdrops, hheld, _⟩
  · rw [hon] at hoff
    cases hoff
  refine ⟨hstate, hdrops, hheld, fun o ho hne => ?_, fun hsame => ?_⟩
  · simp [Port.queueOwn, hon, Port.withoutKind, Port.offerNext, ho, hne, Option.filter]
  · have hnone : p.offer.filter (fun x => decide (x.kind ≠ q.kind)) = none := by
      cases ho : p.offer with
      | none => rfl
      | some o => simp [Option.filter, hsame o ho]
    simp only [Port.queueOwn, hon, Port.withoutKind]
    exact offerNext_lowest (p := { p with
      state := .online
      offer := p.offer.filter (fun x => decide (x.kind ≠ q.kind))
      waiting := p.waiting.filter (fun x => decide (x.kind ≠ q.kind)) ++ [q] }) rfl hnone (by simp)

theorem withPort_port_self (s : State) (id : PortId) (p : Port) : (s.withPort id p).port id = p := by cases id <;> rfl

theorem withPort_same (s : State) (id : PortId) : s.withPort id (s.port id) = s := by cases id <;> rfl

/-- Settles O10: the offer leaves, and the lowest identifier that waits is chosen, if any waits. -/
theorem completionOffersLowestIdentifier : Obligations.CompletionOffersLowestIdentifier := by
  intro s port hon
  refine ⟨fun hnone => ?_, fun hsome => ⟨_, rfl, ?_, ?_, ?_, fun hempty => ?_, fun hwaits => ?_⟩⟩
  · simp only [exec, execTransmitCompletion, Port.complete, hnone, withPort_same]
  · have hframe := withPort_frame s port (s.port port).complete
    cases port <;> exact hframe
  all_goals
    obtain ⟨q, hq⟩ := Option.ne_none_iff_exists'.1 hsome
    simp only [withPort_port_self, Port.complete, hq]
  · simpa using hon
  · simp
  · simp [Port.offerNext, hempty, takeLowest, hon]
  · exact offerNext_lowest (p := { s.port port with offer := none }) hon rfl hwaits

end Sys2Proof.Machine
end

section
/-! What every step keeps of the Routing Table (R13) and of the Signal Store (R17 to R28). -/

namespace Sys2Proof.Machine

/-! ## Blocks that no event touches -/

/-- The blocks that only requests and a full reset change. -/
def loadedBlocks : List Block := [.node, .link, .routes, .kelly]

theorem loaded_of_frame {l : List Block} {s t : State} (h : unchangedExcept l s t)
    (hl : ∀ b ∈ loadedBlocks, b ∉ l) : ∀ b ∈ loadedBlocks, sameBlock s t b :=
  fun b hb => h.2 b (hl b hb)

theorem event_loaded {s t : State} (h : Event s t) : ∀ b ∈ loadedBlocks, sameBlock s t b := by
  cases h with
  | wait rest => intro b _; cases b <;> rfl
  | millisecond => exact loaded_of_frame (countDown_frame s) (by decide)
  | report c hc => exact loaded_of_frame (record_frame s c) (by decide)
  | reply m code tag r hr => exact loaded_of_frame (sendReply_frame s m code tag r) (by decide)
  | sample i v => exact loaded_of_frame (takeSample_frame s i v) (by decide)
  | forward port f hf => exact loaded_of_frame (forward_frame s port f) (by cases port <;> decide)
  | complete port => exact loaded_of_frame (withPort_frame s port _) (by cases port <;> decide)
  | recover port => exact loaded_of_frame (withPort_frame s port _) (by cases port <;> decide)
  | fail port ho =>
    intro b hb
    refine sameBlock_trans (t := s.withPort port (s.port port).fail)
      (loaded_of_frame (withPort_frame s port _) (by cases port <;> decide) b hb) ?_
    cases port with
    | cab => exact loaded_of_frame (record_frame _ .cabLinkDown) (by decide) b hb
    | drive => exact loaded_of_frame (reportTrip_frame _ .driveLinkDown) (by decide) b hb
  | commandAbsent => exact loaded_of_frame (commandAbsent_frame s) (by decide)
  | slotAbsent i => exact loaded_of_frame (slotAbsent_frame s i) (by decide)
  | noProgress => exact loaded_of_frame (noProgress_frame s) (by decide)
  | settleOver => exact loaded_of_frame (settleOver_frame s) (by decide)
  | status => exact loaded_of_frame (sendStatus_frame s) (by decide)
  | stopAsserted =>
    exact fun b hb => sameBlock_trans (loaded_of_frame (withStop_frame s _) (by decide) b hb)
      (loaded_of_frame (reportTrip_frame _ .stopLine) (by decide) b hb)
  | stopReleased => exact loaded_of_frame (withStop_frame s _) (by decide)

/-! ## Routing Table -/

theorem routeTaken_iff (s : State) (k : Fin 32) (e : RouteEntry) : s.routeTaken k e = true ↔
    ∃ j, j ≠ k ∧ s.routes[j].cls ≠ .empty ∧ s.routes[j].port = e.port ∧ s.routes[j].ident = e.ident := by
  simp [State.routeTaken, routeIds, List.any_eq_true, and_assoc]

theorem get_set_route (v : Vector RouteEntry 32) (k j : Fin 32) (e : RouteEntry) :
    (v.set k e)[j] = if j = k then e else v[j] := by
  simp only [Fin.getElem_fin, Vector.getElem_set, Fin.ext_iff, eq_comm]

theorem routesOk_of_same {s t : State} (h : t.routes = s.routes) (hs : routesOk s) : routesOk t := by
  unfold routesOk at hs ⊢
  rw [h]
  exact hs

/-- A stored entry that is EMPTY or not taken clashes with no other (R13). -/
theorem routesOk_set {s : State} {k : Fin 32} {e : RouteEntry} (hfree : ¬ (e.cls ≠ .empty ∧ s.routeTaken k e))
    (hs : routesOk s) : routesOk (s.withRoutes (s.routes.set k e)) := by
  have hclash : ∀ j, j ≠ k → e.cls ≠ .empty → s.routes[j].cls ≠ .empty →
      ¬ (s.routes[j].port = e.port ∧ s.routes[j].ident = e.ident) := fun j hj he hcls hsame =>
    hfree ⟨he, (routeTaken_iff s k e).mpr ⟨j, hj, hcls, hsame⟩⟩
  intro i j hij hi hj hsame
  simp only [State.withRoutes_routes, get_set_route] at hi hj hsame
  by_cases hik : i = k <;> by_cases hjk : j = k <;> simp only [hik, hjk, if_true, if_false] at hi hj hsame
  · exact hij (hik.trans hjk.symm)
  · exact hclash j hjk hi hj ⟨hsame.1.symm, hsame.2.symm⟩
  · exact hclash i hik hj hi hsame
  · exact hs i j hij hi hj hsame

theorem restart_loaded (s : State) : ∀ b ∈ loadedBlocks, sameBlock s s.restart b :=
  loaded_of_frame (restart_frame s) (by decide)

theorem effect_routesOk {s t : State} (h : Effect s t) (hs : routesOk s) : routesOk t := by
  cases h with
  | none | writeLink | openBank | switchWaits | cancel | linkMode => exact hs
  | writeBank m bank i v hb hp => exact routesOk_of_same ((afterBankWrite_frame _ m bank).2 .routes (by decide)) hs
  | writeMap i v hm => exact routesOk_of_same ((writeMap_frame s _ _ i).2 .routes (by decide)) hs
  | writeSignal i j v h => exact routesOk_of_same ((writeSlotItem_frame h).2 .routes (by decide)) hs
  | writeRoute k j v he hfree => exact routesOk_set hfree hs
  | switchActs hp hv => exact routesOk_of_same ((switchBanks_frame s).2 .routes (by decide)) hs
  | commitMap hm hv => exact routesOk_of_same ((commitMap_frame s).2 .routes (by decide)) hs
  | ack c hl hh ha => exact routesOk_of_same ((clearLatch_frame _ c).2 .routes (by decide)) hs
  | channelMode c x => exact routesOk_of_same ((changeMode_frame s c x).2 .routes (by decide)) hs
  | restart hl => exact routesOk_of_same (restart_loaded s .routes (by decide)) hs

theorem reset_routes_empty (k : Fin 32) : (Vector.replicate 32 RouteEntry.reset)[k].cls = .empty := by
  simp [RouteEntry.reset]

/-- A full reset keeps none of the state before it but the commands that wait; its report of the STOP line touches the
trip's blocks alone. -/
theorem fullReset_frame (rest : List Instr) (straps : BitVec 4) (stop : StopLevel) :
    unchangedExcept tripBlocks (State.fullReset rest straps stop) (State.fullReset rest straps stop).reportStopLine := by
  unfold State.reportStopLine
  split
  · exact reportTrip_frame _ _
  · exact unchangedExcept_refl _ _

theorem fullReset_routesOk (rest : List Instr) (straps : BitVec 4) (stop : StopLevel) :
    routesOk (State.fullReset rest straps stop).reportStopLine :=
  routesOk_of_same ((fullReset_frame rest straps stop).2 .routes (by decide)) fun j _ _ hj _ =>
    absurd (reset_routes_empty j) hj

theorem command_loaded (s : State) (data : List Byte) (r : PerChannel Int) (q : Byte) :
    ∀ b ∈ loadedBlocks, sameBlock s ((s.handedOff data).conditionCommand r q) b :=
  loaded_of_frame (command_frame s data r q) (by decide)

theorem step_routesOk {s t : State} (h : step s = .next t) (hs : routesOk s) : routesOk t :=
  step_keeps fullReset_routesOk
    (fun s data _ => routesOk_of_same (command_loaded s data _ _ .routes (by decide)))
    effect_routesOk (fun h => routesOk_of_same (event_loaded h .routes (by decide))) h hs

/-! ## Slot records -/

theorem clamp_bounds {lo hi : Int} (h : lo ≤ hi) (x : Int) : lo ≤ clamp x lo hi ∧ clamp x lo hi ≤ hi := by
  unfold clamp
  omega

theorem plausible_nonempty (i : SlotId) : plausibleLow i ≤ plausibleHigh i := by
  revert i
  decide

theorem sampled_slotOk {i : SlotId} {r : Slot} (v : Int) (h : slotOk i r) : slotOk i (r.sampled i v) := by
  obtain ⟨hlost, habs, hrng, hrng', hlow, hhigh, hcfg⟩ := h
  have hheld := clamp_bounds (plausible_nonempty i) (inSlotUnit i v)
  unfold Slot.sampled
  dsimp only
  split
  · rename_i hout
    exact ⟨by simp, by simp, fun _ => by simpa using hout, fun _ => rfl, hlow, hhigh, hcfg⟩
  · rename_i hout
    exact ⟨by simp, by simp, by simp, fun hboth => absurd (by simpa using hboth) hout, hheld.1, hheld.2, hcfg⟩

theorem absenceExpired_slotOk {i : SlotId} {r : Slot} (h : slotOk i r) : slotOk i r.absenceExpired := by
  obtain ⟨hlost, habs, hrng, hrng', hheld, hcfg⟩ := h
  unfold Slot.absenceExpired
  split
  · rename_i hen
    exact ⟨by simp, by simp [hen], hrng, hrng', hheld, hcfg⟩
  · rename_i hen
    exact ⟨hlost, by simpa [hen] using habs, hrng, hrng', hheld, hcfg⟩

/-- ABSENCE or RANGE has been taken out of lost-by, and the slot's state is judged again (R25). -/
theorem settleLoss_lost_iff {r : Slot} (h : r.state = .lost) :
    r.settleLoss.state = .lost ↔ (r.settleLoss.lostAbsence || r.settleLoss.lostRange) = true := by
  unfold Slot.settleLoss
  split
  · rename_i hby
    simp [h, hby]
  · rename_i hby
    simpa using hby

theorem settleLoss_same (r : Slot) : r.settleLoss = { r with state := r.settleLoss.state } := by
  unfold Slot.settleLoss
  split <;> rfl

theorem withAbsEn_slotOk {i : SlotId} {r : Slot} (on : Bool) (h : slotOk i r) : slotOk i (r.withAbsEn on) := by
  obtain ⟨hlost, habs, hrng, hrng', hheld, hcfg⟩ := h
  unfold Slot.withAbsEn
  dsimp only
  split
  · rename_i hon
    split
    · rename_i htimer
      exact ⟨by simp, by simp [htimer, hon], hrng, hrng', hheld, hcfg⟩
    · rename_i htimer
      exact ⟨hlost, by simp_all, hrng, hrng', hheld, hcfg⟩
  · rename_i hoff
    split
    · rename_i hby
      rw [settleLoss_same]
      have hlost' : r.state = .lost := hlost.mpr (by simp [hby])
      exact ⟨by rw [settleLoss_lost_iff]; · rw [settleLoss_same]
                exact hlost', by simp_all, hrng, hrng', hheld, hcfg⟩
    · rename_i hby
      exact ⟨hlost, by simp_all, hrng, hrng', hheld, hcfg⟩

theorem withRngEn_slotOk {i : SlotId} {r : Slot} (on : Bool) (h : slotOk i r) : slotOk i (r.withRngEn on) := by
  obtain ⟨hlost, habs, hrng, hrng', hheld, hcfg⟩ := h
  unfold Slot.withRngEn
  dsimp only
  split
  · rename_i hon
    split
    · rename_i hcond
      exact ⟨by simp, habs, by simp [hcond, hon], fun _ => rfl, hheld, hcfg⟩
    · rename_i hcond
      exact ⟨hlost, habs, by simp_all, by simp_all, hheld, hcfg⟩
  · rename_i hoff
    split
    · rename_i hby
      rw [settleLoss_same]
      have hlost' : r.state = .lost := hlost.mpr (by simp [hby])
      exact ⟨by rw [settleLoss_lost_iff]; · rw [settleLoss_same]
                exact hlost', habs, by simp_all, by simp_all, hheld, hcfg⟩
    · rename_i hby
      exact ⟨hlost, habs, by simp_all, by simp_all, hheld, hcfg⟩

/-- An accepted configuration write keeps the items in their ranges and touches no enable (R24). -/
theorem edit_configOk {i : SlotId} {c d : SlotConfig} {j : Nat} {v : Int} (h : c.edit i j v = some d)
    (hc : slotConfigOk i c) : slotConfigOk i d ∧ d.absEn = c.absEn ∧ d.rngEn = c.rngEn := by
  obtain ⟨hlo, hhi, hmin, hmax, hle, hsub⟩ := hc
  unfold SlotConfig.edit at h
  split at h
  · split at h <;> simp only [reduceCtorEq, Option.some.injEq] at h
    subst h
    exact ⟨⟨by dsimp only; omega, by dsimp only; omega, hmin, hmax, hle, hsub⟩, rfl, rfl⟩
  · split at h <;> simp only [reduceCtorEq, Option.some.injEq] at h
    rename_i hv
    subst h
    exact ⟨⟨hlo, hhi, hv.1, hmax, hv.2, hsub⟩, rfl, rfl⟩
  · split at h <;> simp only [reduceCtorEq, Option.some.injEq] at h
    rename_i hv
    subst h
    exact ⟨⟨hlo, hhi, hmin, hv.1, hv.2, hsub⟩, rfl, rfl⟩
  · split at h
    · cases h
      exact ⟨⟨hlo, hhi, hmin, hmax, hle, hsub⟩, rfl, rfl⟩
    · split at h <;> simp only [reduceCtorEq, Option.some.injEq] at h
      subst h
      exact ⟨⟨hlo, hhi, hmin, hmax, hle, hsub⟩, rfl, rfl⟩
  · split at h <;> simp only [reduceCtorEq, Option.some.injEq] at h
    rename_i hv
    subst h
    exact ⟨⟨hlo, hhi, hmin, hmax, hle, hv⟩, rfl, rfl⟩
  · cases h

theorem edit_slotOk {i : SlotId} {r : Slot} {d : SlotConfig} {j : Nat} {v : Int} (h : r.cfg.edit i j v = some d)
    (hr : slotOk i r) : slotOk i { r with cfg := d } := by
  obtain ⟨hlost, habs, hrng, hrng', hlow, hhigh, hcfg⟩ := hr
  obtain ⟨hcfg', habsEn, hrngEn⟩ := edit_configOk h hcfg
  exact ⟨hlost, by simpa [habsEn] using habs, by simpa [hrngEn] using hrng, by simpa [hrngEn] using hrng', hlow, hhigh,
    hcfg'⟩

theorem tick_slotOk {i : SlotId} {r : Slot} (h : slotOk i r) : slotOk i r.tick := by
  obtain ⟨hlost, habs, hrest⟩ := h
  refine ⟨hlost, ?_, hrest⟩
  have hexpired : r.timer.tick = .expired ↔ r.timer = .expired := by cases r.timer <;> simp [AbsenceTimer.tick]
  exact habs.trans (and_congr_left' hexpired.symm)

theorem restarted_slotOk {i : SlotId} {r : Slot} (h : slotOk i r) : slotOk i r.restarted := by
  obtain ⟨-, -, -, -, hlow, hhigh, hcfg⟩ := h
  exact ⟨by simp [Slot.restarted], by simp [Slot.restarted], by simp [Slot.restarted], by simp [Slot.restarted], hlow,
    hhigh, hcfg⟩

/-! ## The Signal Store -/

theorem slot_withSlot (g : SignalStore) (i j : SlotId) (r : Slot) :
    (g.withSlot i r).slot j = if j = i then r else g.slot j := by
  simp only [SignalStore.slot, SignalStore.withSlot, Fin.getElem_fin, Vector.getElem_set, Fin.ext_iff, eq_comm]

theorem slot_restarted (g : SignalStore) (i : SlotId) : g.restarted.slot i = (g.slot i).restarted := by
  fin_cases i <;> rfl

theorem slot_tick (g : SignalStore) (i : SlotId) : g.tick.slot i = (g.slot i).tick := by
  fin_cases i <;> rfl

/-- T and Fm are formed from what stands (R27, R28). -/
def derivedOk (s : State) : Prop := s.signal.torque = s.torqueNow ∧ s.signal.crowd = s.crowdNow

theorem signalOk_iff (s : State) : signalOk s ↔ (∀ i, slotOk i (s.signal.slot i)) ∧ derivedOk s := Iff.rfl

theorem torqueNow_congr {s t : State} (h1 : t.effective 1 = s.effective 1) (h2 : t.effective 2 = s.effective 2)
    (hk : torqueConstant t.kelly.items = torqueConstant s.kelly.items) : t.torqueNow = s.torqueNow := by
  simp only [State.torqueNow, h1, h2, hk]

theorem crowdNow_congr {s t : State} (h3 : t.effective 3 = s.effective 3) (h4 : t.effective 4 = s.effective 4)
    (hp : pushArea t.kelly.items = pushArea s.kelly.items) (hr : pullArea t.kelly.items = pullArea s.kelly.items) :
    t.crowdNow = s.crowdNow := by
  simp only [State.crowdNow, h3, h4, hp, hr]

theorem derivedOk_congr {s t : State} (he : ∀ j, t.effective j = s.effective j) (hk : t.kelly = s.kelly)
    (ht : t.signal.torque = s.signal.torque) (hc : t.signal.crowd = s.signal.crowd) (hs : derivedOk s) : derivedOk t := by
  refine ⟨?_, ?_⟩
  · rw [ht, torqueNow_congr (he 1) (he 2) (by rw [hk])]
    exact hs.1
  · rw [hc, crowdNow_congr (he 3) (he 4) (by rw [hk]) (by rw [hk])]
    exact hs.2

theorem effective_of_signal {s t : State} (h : t.signal = s.signal) (j : SlotId) : t.effective j = s.effective j := by
  unfold State.effective
  rw [h]

theorem signalOk_of_same {s t : State} (h : t.signal = s.signal) (hk : t.kelly = s.kelly) (hs : signalOk s) :
    signalOk t :=
  ⟨h ▸ hs.1, derivedOk_congr (effective_of_signal h) hk (by rw [h]) (by rw [h]) hs.2⟩

/-- The effective value reads the state, the raw and the held value, POLICY and SUBST alone (R22). -/
theorem Slot.effective_congr {i : SlotId} {r q : Slot} (hs : q.state = r.state) (hraw : q.raw = r.raw)
    (hheld : q.held = r.held) (hpol : q.cfg.policy = r.cfg.policy) (hsub : q.cfg.subst = r.cfg.subst) :
    q.effective i = r.effective i := by
  unfold Slot.effective
  rw [hs, hraw, hheld, hpol, hsub]

/-! ### A slot takes a new record -/

theorem effective_withSlot (s : State) (i j : SlotId) (r : Slot) :
    (s.withSignal (s.signal.withSlot i r)).effective j = if j = i then r.effective i else s.effective j := by
  unfold State.effective
  rw [State.withSignal_signal, slot_withSlot]
  split
  · rename_i h
    rw [h]
  · rfl

/-- Where the new record has the effective value of the old one, T and Fm stand. -/
theorem signalOk_withSlot_same {s : State} {i : SlotId} {r : Slot} (hr : slotOk i r)
    (he : r.effective i = (s.signal.slot i).effective i) (hs : signalOk s) :
    signalOk (s.withSignal (s.signal.withSlot i r)) := by
  refine ⟨fun j => ?_, derivedOk_congr (s := s) (fun j => ?_) rfl rfl rfl hs.2⟩
  · rw [State.withSignal_signal, slot_withSlot]
    split
    · rename_i h
      rw [h]
      exact hr
    · exact hs.1 j
  · rw [effective_withSlot]
    split
    · rename_i h
      rw [he, h]
      rfl
    · rfl

@[simp] theorem storeSlot_signal (s : State) (i : SlotId) (r : Slot) :
    (s.storeSlot i r).signal = s.signal.withSlot i r := by
  unfold State.storeSlot
  dsimp only
  split <;> rfl

theorem storeSlot_kelly (s : State) (i : SlotId) (r : Slot) : (s.storeSlot i r).kelly = s.kelly :=
  (storeSlot_frame s i r).2 .kelly (by decide)

theorem deliverSlot_signal (s : State) (i : SlotId) : (s.deliverSlot i).signal = (s.refreshDerived i).signal :=
  (slotEvent_frame (s.refreshDerived i) i).2 .signal (by decide)

theorem deliverSlot_kelly (s : State) (i : SlotId) : (s.deliverSlot i).kelly = s.kelly :=
  (deliverSlot_frame s i).2 .kelly (by decide)

theorem refreshDerived_signal (s : State) (i : SlotId) : (s.refreshDerived i).signal =
    { s.signal with
      torque := if i = 1 ∨ i = 2 then s.torqueNow else s.signal.torque
      crowd := if i = 3 ∨ i = 4 then s.crowdNow else s.signal.crowd } := by
  unfold State.refreshDerived
  fin_cases i <;> rfl

theorem slot_refreshDerived (s : State) (i j : SlotId) : (s.refreshDerived i).signal.slot j = s.signal.slot j := by
  rw [refreshDerived_signal]
  rfl

theorem slot_deliverSlot (s : State) (i j : SlotId) : (s.deliverSlot i).signal.slot j = s.signal.slot j := by
  rw [deliverSlot_signal, slot_refreshDerived]

theorem effective_deliverSlot (s : State) (i j : SlotId) : (s.deliverSlot i).effective j = s.effective j := by
  unfold State.effective
  rw [slot_deliverSlot]

/-- The derived quantity of a slot that takes a new record is formed anew; the other is not (R29). -/
theorem signalOk_deliver {s u : State} {i : SlotId} {r : Slot} (hu : u.signal = s.signal.withSlot i r)
    (hk : u.kelly = s.kelly) (hr : slotOk i r) (hs : signalOk s) : signalOk (u.deliverSlot i) := by
  have hother : ∀ j, j ≠ i → u.effective j = s.effective j := fun j hj =>
    (effective_of_signal (s := s.withSignal (s.signal.withSlot i r)) hu j).trans
      ((effective_withSlot s i j r).trans (if_neg hj))
  refine ⟨fun j => ?_, ?_, ?_⟩
  · rw [slot_deliverSlot, hu, slot_withSlot]
    split
    · rename_i h
      rw [h]
      exact hr
    · exact hs.1 j
  · rw [torqueNow_congr (effective_deliverSlot u i 1) (effective_deliverSlot u i 2) (by rw [deliverSlot_kelly]),
      deliverSlot_signal, refreshDerived_signal]
    dsimp only
    split
    · rfl
    · rename_i hi
      rw [hu, torqueNow_congr (hother 1 fun h => hi (.inl h.symm)) (hother 2 fun h => hi (.inr h.symm)) (by rw [hk])]
      exact hs.2.1
  · rw [crowdNow_congr (effective_deliverSlot u i 3) (effective_deliverSlot u i 4) (by rw [deliverSlot_kelly])
        (by rw [deliverSlot_kelly]), deliverSlot_signal, refreshDerived_signal]
    dsimp only
    split
    · rfl
    · rename_i hi
      rw [hu, crowdNow_congr (hother 3 fun h => hi (.inl h.symm)) (hother 4 fun h => hi (.inr h.symm)) (by rw [hk])
        (by rw [hk])]
      exact hs.2.2

theorem takeSample_signalOk {s : State} (i : SlotId) (v : Int) (hs : signalOk s) : signalOk (s.takeSample i v) :=
  signalOk_deliver (storeSlot_signal s i _) (storeSlot_kelly s i _) (sampled_slotOk v (hs.1 i)) hs

/-- A judgement that keeps the slot's state keeps its effective value (R22). -/
theorem judgeSlot_signalOk {s : State} {i : SlotId} {r : Slot} (hr : slotOk i r)
    (he : r.state = (s.signal.slot i).state → r.effective i = (s.signal.slot i).effective i) (hs : signalOk s) :
    signalOk (s.judgeSlot i r) := by
  unfold State.judgeSlot
  dsimp only
  split
  · rename_i hsame
    exact signalOk_of_same (s := s.withSignal (s.signal.withSlot i r)) (storeSlot_signal s i r) (storeSlot_kelly s i r)
      (signalOk_withSlot_same hr (he hsame) hs)
  · exact signalOk_deliver (storeSlot_signal s i r) (storeSlot_kelly s i r) hr hs

theorem absenceExpired_same (r : Slot) : r.absenceExpired.raw = r.raw ∧ r.absenceExpired.held = r.held ∧
    r.absenceExpired.cfg = r.cfg := by
  unfold Slot.absenceExpired
  split <;> exact ⟨rfl, rfl, rfl⟩

theorem slotAbsent_signalOk {s : State} (i : SlotId) (hs : signalOk s) : signalOk (s.slotAbsent i) := by
  obtain ⟨hraw, hheld, hcfg⟩ := absenceExpired_same (s.signal.slot i)
  exact judgeSlot_signalOk (absenceExpired_slotOk (hs.1 i))
    (fun hst => Slot.effective_congr hst hraw hheld (by rw [hcfg]) (by rw [hcfg])) hs

theorem withAbsEn_same (r : Slot) (on : Bool) : (r.withAbsEn on).raw = r.raw ∧ (r.withAbsEn on).held = r.held ∧
    (r.withAbsEn on).cfg = { r.cfg with absEn := on } := by
  unfold Slot.withAbsEn Slot.settleLoss
  dsimp only
  split
  · split <;> exact ⟨rfl, rfl, rfl⟩
  · split
    · split <;> exact ⟨rfl, rfl, rfl⟩
    · exact ⟨rfl, rfl, rfl⟩

theorem withRngEn_same (r : Slot) (on : Bool) : (r.withRngEn on).raw = r.raw ∧ (r.withRngEn on).held = r.held ∧
    (r.withRngEn on).cfg = { r.cfg with rngEn := on } := by
  unfold Slot.withRngEn Slot.settleLoss
  dsimp only
  split
  · split <;> exact ⟨rfl, rfl, rfl⟩
  · split
    · split <;> exact ⟨rfl, rfl, rfl⟩
    · exact ⟨rfl, rfl, rfl⟩

theorem configureSlot_signalOk {s : State} {i : SlotId} {c : SlotConfig}
    (hr : slotOk i { s.signal.slot i with cfg := c }) (hs : signalOk s) : signalOk (s.configureSlot i c) := by
  unfold State.configureSlot
  dsimp only
  split
  · rename_i he
    exact signalOk_withSlot_same hr he hs
  · exact signalOk_deliver rfl rfl hr hs

theorem writeSlotItem_signalOk {s t : State} {i : SlotId} {j : Nat} {v : Int} (h : s.writeSlotItem i j v = some t)
    (hs : signalOk s) : signalOk t := by
  rcases writeSlotItem_cases h with ⟨on, -, -, rfl⟩ | ⟨on, -, -, rfl⟩ | ⟨c, hedit, rfl⟩
  · obtain ⟨hraw, hheld, hcfg⟩ := withAbsEn_same (s.signal.slot i) on
    exact judgeSlot_signalOk (withAbsEn_slotOk on (hs.1 i))
      (fun hst => Slot.effective_congr hst hraw hheld (by rw [hcfg]) (by rw [hcfg])) hs
  · obtain ⟨hraw, hheld, hcfg⟩ := withRngEn_same (s.signal.slot i) on
    exact judgeSlot_signalOk (withRngEn_slotOk on (hs.1 i))
      (fun hst => Slot.effective_congr hst hraw hheld (by rw [hcfg]) (by rw [hcfg])) hs
  · exact configureSlot_signalOk (edit_slotOk hedit (hs.1 i)) hs

/-! ### The other changes -/

theorem countDown_signalOk {s : State} (hs : signalOk s) : signalOk s.countDown := by
  have hslot : ∀ i, s.countDown.signal.slot i = (s.signal.slot i).tick := slot_tick s.signal
  refine ⟨fun i => hslot i ▸ tick_slotOk (hs.1 i), derivedOk_congr (s := s) (fun j => ?_) rfl rfl rfl hs.2⟩
  unfold State.effective
  rw [hslot]
  rfl

theorem itemAt_setIfInBounds_ne {n : Nat} (xs : Vector Word n) {i j : Nat} (v : Word) (h : i ≠ j) :
    itemAt (xs.setIfInBounds i v) j = itemAt xs j := by
  unfold itemAt
  rw [Vector.getElem?_setIfInBounds_ne h]

theorem deliverTrackerChange_signal (s : State) (x : TrackerMode) : (s.deliverTrackerChange x).signal = s.signal :=
  (deliverTrackerChange_frame s x).2 .signal (by decide)

theorem deliverTrackerChange_kelly (s : State) (x : TrackerMode) : (s.deliverTrackerChange x).kelly = s.kelly :=
  (deliverTrackerChange_frame s x).2 .kelly (by decide)

theorem refreshMapped_signal (s : State) (i : Nat) : (s.refreshMapped i).signal =
    { s.signal with
      torque := if i = 6 then s.torqueNow else s.signal.torque
      crowd := if i = 7 ∨ i = 8 then s.crowdNow else s.signal.crowd } := by
  unfold State.refreshMapped
  split
  · rename_i h
    subst h
    rfl
  · split <;> rfl

theorem refreshMapped_kelly (s : State) (i : Nat) : (s.refreshMapped i).kelly = s.kelly :=
  (refreshMapped_frame s i).2 .kelly (by decide)

/-- Only KT, AP and AR are read by T and Fm, and a write of one forms its quantity anew (R39). -/
theorem refreshMapped_signalOk {s u : State} {i : Nat} {v : Word} (hu : u.signal = s.signal)
    (hk : u.kelly.items = s.kelly.items.setIfInBounds i v) (hs : signalOk s) : signalOk (u.refreshMapped i) := by
  have hother : ∀ j, i ≠ j → itemAt u.kelly.items j = itemAt s.kelly.items j := fun j hj => by
    rw [hk, itemAt_setIfInBounds_ne _ _ hj]
  have heff : ∀ j, (u.refreshMapped i).effective j = u.effective j := fun j => by
    unfold State.effective
    rw [refreshMapped_signal]
    rfl
  refine ⟨fun j => ?_, ?_, ?_⟩
  · rw [refreshMapped_signal, hu]
    exact hs.1 j
  · rw [torqueNow_congr (heff 1) (heff 2) (by rw [refreshMapped_kelly]), refreshMapped_signal]
    dsimp only
    split
    · rfl
    · rename_i hi
      rw [hu, torqueNow_congr (effective_of_signal hu 1) (effective_of_signal hu 2) (hother 6 hi)]
      exact hs.2.1
  · rw [crowdNow_congr (heff 3) (heff 4) (by rw [refreshMapped_kelly]) (by rw [refreshMapped_kelly]),
      refreshMapped_signal]
    dsimp only
    split
    · rfl
    · rename_i hi
      rw [hu, crowdNow_congr (effective_of_signal hu 3) (effective_of_signal hu 4)
        (hother 7 fun h => hi (.inl h)) (hother 8 fun h => hi (.inr h))]
      exact hs.2.2

theorem restartSlots_signalOk {s : State} (hs : signalOk s) : signalOk s.restartSlots := by
  have hslot : ∀ i, s.restartSlots.signal.slot i = (s.signal.slot i).restarted := slot_restarted s.signal
  exact ⟨fun i => hslot i ▸ restarted_slotOk (hs.1 i), rfl, rfl⟩

/-- The Signal Store of a restart is that of the slots at the restart; T and Fm are formed anew (R32). -/
theorem restartBlocks_signal (s : State) : s.restartBlocks.signal = s.restartSlots.signal ∧
    s.restartBlocks.kelly = s.kelly := by
  have habort := biteOutsideAbort_frame s.restartBanks
  have hsig : s.restartBanks.biteOutsideAbort.signal = s.signal := habort.2 .signal (by decide)
  have hkel : s.restartBanks.biteOutsideAbort.kelly = s.kelly := habort.2 .kelly (by decide)
  unfold State.restartBlocks State.restartSlots
  generalize s.restartBanks.biteOutsideAbort = u at hsig hkel
  simp only [State.restartFaults, State.restartTracker, State.refreshTorque, State.refreshCrowd, State.torqueNow,
    State.crowdNow, State.effective, State.withFaults_signal, State.withFaults_kelly, State.withCommandTimer_signal,
    State.withCommandTimer_kelly, State.withTracker_signal, State.withTracker_kelly, State.withSignal_signal,
    State.withSignal_kelly, State.withChan_signal, State.withChan_kelly, State.withCond_signal, State.withCond_kelly,
    hsig, hkel, and_self]

theorem reportCauses_frame (s : State) : unchangedExcept tripBlocks s s.reportStopLine.reportDriveLink := by
  have hstop : unchangedExcept tripBlocks s s.reportStopLine := by
    unfold State.reportStopLine
    split
    · exact reportTrip_frame _ _
    · exact unchangedExcept_refl _ _
  refine unchangedExcept_trans hstop ?_
  unfold State.reportDriveLink
  split
  · exact reportTrip_frame _ _
  · exact unchangedExcept_refl _ _

theorem restart_signalOk {s : State} (hs : signalOk s) : signalOk s.restart := by
  have hreports := reportCauses_frame s.restartBlocks
  obtain ⟨hsig, hkel⟩ := restartBlocks_signal s
  have hsig' : s.restart.signal = s.restartSlots.signal := (hreports.2 .signal (by decide)).trans hsig
  have hkel' : s.restart.kelly = s.restartSlots.kelly := (hreports.2 .kelly (by decide)).trans hkel
  exact signalOk_of_same hsig' hkel' (restartSlots_signalOk hs)

theorem signalOk_of_frame {l : List Block} {s t : State} (h : unchangedExcept l s t) (hl : Block.signal ∉ l)
    (hk : Block.kelly ∉ l) (hs : signalOk s) : signalOk t := signalOk_of_same (h.2 .signal hl) (h.2 .kelly hk) hs

theorem event_signalOk {s t : State} (h : Event s t) (hs : signalOk s) : signalOk t := by
  cases h with
  | wait rest => exact hs
  | millisecond => exact countDown_signalOk hs
  | report c hc => exact hs
  | reply m code tag r hr => exact hs
  | sample i v => exact takeSample_signalOk i v hs
  | forward port f hf =>
    exact signalOk_of_frame (forward_frame s port f) (by cases port <;> decide) (by cases port <;> decide) hs
  | complete port =>
    exact signalOk_of_frame (withPort_frame s port _) (by cases port <;> decide) (by cases port <;> decide) hs
  | recover port =>
    exact signalOk_of_frame (withPort_frame s port _) (by cases port <;> decide) (by cases port <;> decide) hs
  | fail port ho =>
    have hport := signalOk_of_frame (withPort_frame s port (s.port port).fail) (by cases port <;> decide)
      (by cases port <;> decide) hs
    cases port with
    | cab => exact hport
    | drive => exact signalOk_of_frame (reportTrip_frame _ .driveLinkDown) (by decide) (by decide) hport
  | commandAbsent => exact signalOk_of_frame (commandAbsent_frame s) (by decide) (by decide) hs
  | slotAbsent i => exact slotAbsent_signalOk i hs
  | noProgress => exact signalOk_of_frame (noProgress_frame s) (by decide) (by decide) hs
  | settleOver => exact signalOk_of_frame (settleOver_frame s) (by decide) (by decide) hs
  | status => exact hs
  | stopAsserted =>
    exact signalOk_of_frame (reportTrip_frame (s.withStop .asserted) .stopLine) (by decide) (by decide) hs
  | stopReleased => exact hs

theorem effect_signalOk {s t : State} (h : Effect s t) (hs : signalOk s) : signalOk t := by
  cases h with
  | none | writeLink | openBank | switchWaits | cancel | linkMode | writeRoute | switchActs | channelMode => exact hs
  | writeBank m bank i v hb hp => exact signalOk_of_frame (afterBankWrite_frame _ m bank) (by decide) (by decide) hs
  | writeMap i v hm =>
    exact refreshMapped_signalOk (s := s) (v := v) (deliverTrackerChange_signal _ _)
      (by rw [deliverTrackerChange_kelly]; rfl) hs
  | writeSignal i j v h => exact writeSlotItem_signalOk h hs
  | commitMap hm hv =>
    have hframe := commitMap_frame s
    have hkelly : s.commitMap.kelly = { s.kelly with committed := true } := deliverTrackerChange_kelly _ _
    have hitems : s.commitMap.kelly.items = s.kelly.items := by rw [hkelly]
    have hsig : s.commitMap.signal = s.signal := hframe.2 .signal (by decide)
    refine ⟨hsig ▸ hs.1, ?_, ?_⟩
    · rw [hsig, torqueNow_congr (effective_of_signal hsig 1) (effective_of_signal hsig 2) (by rw [hitems])]
      exact hs.2.1
    · rw [hsig, crowdNow_congr (effective_of_signal hsig 3) (effective_of_signal hsig 4) (by rw [hitems]) (by rw [hitems])]
      exact hs.2.2
  | ack c hl hh ha => exact signalOk_of_frame (clearLatch_frame _ c) (by decide) (by decide) hs
  | restart hl => exact restart_signalOk hs

theorem reset_signalOk (rest : List Instr) (straps : BitVec 4) (stop : StopLevel) :
    signalOk (State.fullReset rest straps stop) := by
  have hitem : ∀ j, itemAt KellyMap.reset.items j = 0 := fun j => by
    simp only [itemAt, KellyMap.reset, Vector.getElem?_replicate]
    split <;> rfl
  refine ⟨fun i => ?_, by simp [State.torqueNow, torqueConstant, State.fullReset, hitem, truncDiv, SignalStore.reset],
    by simp [State.crowdNow, pushArea, pullArea, State.fullReset, hitem, truncDiv, SignalStore.reset]⟩
  fin_cases i <;>
    simp [State.fullReset, SignalStore.reset, SignalStore.slot, Slot.reset, slotOk, slotConfigOk, inWrittenRange,
      plausibleLow, plausibleHigh, inSlotUnit]

theorem fullReset_signalOk (rest : List Instr) (straps : BitVec 4) (stop : StopLevel) :
    signalOk (State.fullReset rest straps stop).reportStopLine :=
  signalOk_of_frame (fullReset_frame rest straps stop) (by decide) (by decide) (reset_signalOk rest straps stop)

theorem step_signalOk {s t : State} (h : step s = .next t) (hs : signalOk s) : signalOk t :=
  step_keeps fullReset_signalOk
    (fun s data _ => signalOk_of_frame (command_frame s data _ _) (by decide) (by decide))
    effect_signalOk event_signalOk h hs

end Sys2Proof.Machine
end

section
/-! The walk over the junctions (R55, R56). -/

namespace Sys2Proof.Machine

/-! ## One junction of the walk -/

/-- What the walk leaves of an amount, and the record it gives, at one junction (R55, R56). -/
def walkOne (m : MapItems) (extending : Bool) (amount : Int) (k : Fin 5) (j : Junction) : Int × Junction :=
  if junctionInUse m k && decide (j.state ≠ .locked) then
    (amount - walkShare extending (junctionTravel m k) amount j,
      takeShare extending (junctionTravel m k) (walkShare extending (junctionTravel m k) amount j) j)
  else (amount, j)

theorem walkStep_eq (m : MapItems) (extending : Bool) (acc : Int × Vector Junction 5) (k : Fin 5) :
    walkStep m extending acc k = ((walkOne m extending acc.1 k acc.2[k]).1,
      acc.2.set k (walkOne m extending acc.1 k acc.2[k]).2) := by
  unfold walkStep walkOne
  split
  · rfl
  · exact congrArg (Prod.mk acc.1) (Vector.set_getElem_self k.isLt).symm

/-- The walk takes this junction in: it is in use and not LOCKED (R55). -/
def takenIn (m : MapItems) (k : Fin 5) (j : Junction) : Prop := junctionInUse m k = true ∧ j.state ≠ .locked

/-- The extension of a junction in use lies within its travel. -/
def withinTravel (m : MapItems) (k : Fin 5) (j : Junction) : Prop :=
  junctionInUse m k = true → 0 ≤ j.ext ∧ j.ext ≤ junctionTravel m k

section One
variable {m : MapItems} {extending : Bool} {amount : Int} {k : Fin 5} {j : Junction}

theorem walkOne_of_takenIn (h : takenIn m k j) : walkOne m extending amount k j =
    (amount - walkShare extending (junctionTravel m k) amount j,
      takeShare extending (junctionTravel m k) (walkShare extending (junctionTravel m k) amount j) j) :=
  if_pos (by simpa [takenIn] using h)

theorem walkOne_of_not_takenIn (h : ¬ takenIn m k j) : walkOne m extending amount k j = (amount, j) :=
  if_neg (by simpa [takenIn] using h)

theorem walkOne_amount (ha : 0 ≤ amount) (hj : withinTravel m k j) :
    0 ≤ (walkOne m extending amount k j).1 ∧ (walkOne m extending amount k j).1 ≤ amount := by
  by_cases h : takenIn m k j
  · have hrange := hj h.1
    rw [walkOne_of_takenIn h]
    unfold walkShare
    dsimp only
    split <;> omega
  · rw [walkOne_of_not_takenIn h]
    exact ⟨ha, le_rfl⟩

/-- The extension moves by the share taken. -/
theorem walkOne_ext : (walkOne m extending amount k j).2.ext =
    if extending then j.ext + (amount - (walkOne m extending amount k j).1)
    else j.ext - (amount - (walkOne m extending amount k j).1) := by
  by_cases h : takenIn m k j
  · rw [walkOne_of_takenIn h]
    generalize walkShare extending (junctionTravel m k) amount j = share
    unfold takeShare
    by_cases hs : share = 0
    · subst hs
      cases extending <;> simp
    · cases extending <;> simp [hs]
  · rw [walkOne_of_not_takenIn h]
    cases extending <;> simp

theorem walkOne_withinTravel (ha : 0 ≤ amount) (hj : withinTravel m k j) :
    withinTravel m k (walkOne m extending amount k j).2 := by
  intro hk
  have hrange := hj hk
  by_cases h : takenIn m k j
  · rw [walkOne_ext, walkOne_of_takenIn h]
    unfold walkShare
    cases extending
    · simp only [Bool.false_eq_true, if_false]
      omega
    · simp only [if_true]
      omega
  · rw [walkOne_of_not_takenIn h]
    exact hrange

/-- A junction that took no share keeps its record; one that took a share has the state its extension gives (R56). -/
theorem walkOne_record : (walkOne m extending amount k j).2 = j ∨
    ((walkOne m extending amount k j).2.ext ≠ j.ext ∧ takenIn m k j ∧
      (walkOne m extending amount k j).2.lock = none ∧
      (walkOne m extending amount k j).2.state =
        stateOfExtension (junctionTravel m k) (walkOne m extending amount k j).2.ext) := by
  by_cases h : takenIn m k j
  · rw [walkOne_of_takenIn h]
    dsimp only
    generalize walkShare extending (junctionTravel m k) amount j = share
    unfold takeShare
    by_cases hs : share = 0
    · exact .inl (if_pos hs)
    · rw [if_neg hs]
      refine .inr ⟨?_, h, rfl, rfl⟩
      dsimp only
      split <;> omega
  · rw [walkOne_of_not_takenIn h]
    exact .inl rfl

theorem walkOne_unmoved (h : (walkOne m extending amount k j).2.ext = j.ext) :
    (walkOne m extending amount k j).2 = j := walkOne_record.resolve_right fun hmoved => hmoved.1 h

theorem walkOne_moved (h : (walkOne m extending amount k j).2.ext ≠ j.ext) :
    (walkOne m extending amount k j).2.lock = none ∧
      (walkOne m extending amount k j).2.state =
        stateOfExtension (junctionTravel m k) (walkOne m extending amount k j).2.ext :=
  (walkOne_record.resolve_left fun hsame => h (congrArg Junction.ext hsame)).2.2

/-- An amount is left only where the junction is at its stop (R55). -/
theorem walkOne_at_stop (h : takenIn m k j) (hleft : (walkOne m extending amount k j).1 ≠ 0) :
    (walkOne m extending amount k j).2.ext = if extending then junctionTravel m k else 0 := by
  rw [walkOne_ext]
  rw [walkOne_of_takenIn h] at hleft ⊢
  unfold walkShare at hleft ⊢
  cases extending
  · simp only [Bool.false_eq_true, if_false] at hleft ⊢
    omega
  · simp only [if_true] at hleft ⊢
    omega

/-- A junction moves only by an amount that has come to it. -/
theorem walkOne_amount_of_moved (ha : 0 ≤ amount) (hj : withinTravel m k j)
    (h : (walkOne m extending amount k j).2.ext ≠ j.ext) : amount ≠ 0 := by
  rintro rfl
  have hamount := walkOne_amount (extending := extending) ha hj
  rw [walkOne_ext] at h
  split at h <;> omega

end One

/-! ## The whole walk -/

/-- The junction the walk comes to after n others, innermost first (R55). -/
def inward (n : Nat) : Fin 5 := (Fin.ofNat 5 n).rev

/-- What is left of the amount when the walk has passed n junctions. -/
def walkLeft (m : MapItems) (d : Int) (js : Vector Junction 5) : Nat → Int
  | 0 => |d|
  | n + 1 => (walkOne m (decide (0 < d)) (walkLeft m d js n) (inward n) js[inward n]).1

/-- The walk comes to each junction with the record it had before. -/
theorem distribute_eq (m : MapItems) (d : Int) (js : Vector Junction 5) :
    (distribute m d js).1 = walkLeft m d js 5 ∧
    ∀ k : Fin 5, (distribute m d js).2[k] =
      (walkOne m (decide (0 < d)) (walkLeft m d js k.rev) k js[k]).2 := by
  have hstart : magnitude d = walkLeft m d js 0 := magnitude_eq_abs d
  have hwalk : distribute m d js = (walkLeft m d js 5,
      ((((js.set 4 (walkOne m (decide (0 < d)) (walkLeft m d js 0) 4 js[4]).2).set 3
        (walkOne m (decide (0 < d)) (walkLeft m d js 1) 3 js[3]).2).set 2
        (walkOne m (decide (0 < d)) (walkLeft m d js 2) 2 js[2]).2).set 1
        (walkOne m (decide (0 < d)) (walkLeft m d js 3) 1 js[1]).2).set 0
        (walkOne m (decide (0 < d)) (walkLeft m d js 4) 0 js[0]).2) := by
    simp only [distribute, junctionIdsInward, List.foldl_cons, List.foldl_nil, walkStep_eq, hstart, Fin.getElem_fin,
      Vector.getElem_set]
    rfl
  refine ⟨by rw [hwalk], fun k => ?_⟩
  rw [hwalk]
  fin_cases k <;> simp

section Walk
variable {m : MapItems} {d : Int} {js : Vector Junction 5}

theorem walkLeft_nonneg (hjs : ∀ k, withinTravel m k js[k]) : ∀ n, 0 ≤ walkLeft m d js n
  | 0 => abs_nonneg d
  | n + 1 => (walkOne_amount (walkLeft_nonneg hjs n) (hjs _)).1

theorem walkLeft_antitone (hjs : ∀ k, withinTravel m k js[k]) {a b : Nat} (h : a ≤ b) :
    walkLeft m d js b ≤ walkLeft m d js a :=
  antitone_nat_of_succ_le (f := walkLeft m d js)
    (fun n => (walkOne_amount (walkLeft_nonneg hjs n) (hjs _)).2) h

theorem walkLeft_after (k : Fin 5) : walkLeft m d js (k.rev + 1) =
    (walkOne m (decide (0 < d)) (walkLeft m d js k.rev) k js[k]).1 := by
  have hk : inward k.rev = k := by
    revert k
    decide
  simp only [walkLeft, hk]

theorem distribute_withinTravel (hjs : ∀ k, withinTravel m k js[k]) (k : Fin 5) :
    withinTravel m k (distribute m d js).2[k] := by
  rw [(distribute_eq m d js).2 k]
  exact walkOne_withinTravel (walkLeft_nonneg hjs _) (hjs k)

/-- An amount left over, or taken by an outer junction, has passed this one at its stop (R55). -/
theorem distribute_at_stop (hjs : ∀ k, withinTravel m k js[k]) {k : Fin 5} (hk : takenIn m k js[k])
    (h : (distribute m d js).1 ≠ 0 ∨ ∃ j : Fin 5, j < k ∧ (distribute m d js).2[j].ext ≠ js[j].ext) :
    (distribute m d js).2[k].ext = if decide (0 < d) then junctionTravel m k else 0 := by
  rw [(distribute_eq m d js).2 k]
  refine walkOne_at_stop hk ?_
  rw [← walkLeft_after]
  have hpos : ∃ n, k.rev.val + 1 ≤ n ∧ walkLeft m d js n ≠ 0 := by
    rcases h with hrest | ⟨j, hjk, hmoved⟩
    · exact ⟨5, by omega, (distribute_eq m d js).1 ▸ hrest⟩
    · rw [(distribute_eq m d js).2 j] at hmoved
      refine ⟨j.rev, ?_, walkOne_amount_of_moved (walkLeft_nonneg hjs _) (hjs j) hmoved⟩
      rw [Fin.val_rev, Fin.val_rev]
      omega
  obtain ⟨n, hn, hne⟩ := hpos
  have hle := walkLeft_antitone (d := d) hjs hn
  have hnonneg := walkLeft_nonneg (d := d) hjs n
  omega

/-- Each junction moves by what the walk leaves with it. -/
theorem distribute_ext (k : Fin 5) : (distribute m d js).2[k].ext =
    if 0 < d then js[k].ext + (walkLeft m d js k.rev - walkLeft m d js (k.rev + 1))
    else js[k].ext - (walkLeft m d js k.rev - walkLeft m d js (k.rev + 1)) := by
  rw [(distribute_eq m d js).2 k, walkOne_ext, walkLeft_after]
  simp only [decide_eq_true_eq]

theorem distribute_passed {k : Fin 5} (h : ¬ takenIn m k js[k]) : (distribute m d js).2[k] = js[k] := by
  rw [(distribute_eq m d js).2 k, walkOne_of_not_takenIn h]

theorem distribute_unmoved {k : Fin 5} (h : (distribute m d js).2[k].ext = js[k].ext) :
    (distribute m d js).2[k] = js[k] := by
  rw [(distribute_eq m d js).2 k] at h ⊢
  exact walkOne_unmoved h

theorem distribute_moved {k : Fin 5} (h : (distribute m d js).2[k].ext ≠ js[k].ext) :
    (distribute m d js).2[k].lock = none ∧
      (distribute m d js).2[k].state = stateOfExtension (junctionTravel m k) (distribute m d js).2[k].ext := by
  rw [(distribute_eq m d js).2 k] at h ⊢
  exact walkOne_moved h

end Walk

/-- Settles O29: what the walk does at one junction, junction by junction from the innermost. -/
theorem walkInnermostFirst : Obligations.WalkInnermostFirst := by
  intro m d js hjs
  have htravel : ∀ k, withinTravel m k js[k] := hjs
  have hleft := (distribute_eq m d js).1
  have hstart : walkLeft m d js 0 = |d| := rfl
  have hext := fun k => distribute_ext (m := m) (d := d) (js := js) k
  refine ⟨fun k hk => distribute_passed hk, fun k hk => distribute_withinTravel htravel k hk.1,
    fun k => distribute_unmoved, fun k => distribute_moved, hleft ▸ walkLeft_nonneg htravel 5, fun hd => ?_, fun hd => ?_,
    fun k hk hstop => ?_⟩
  · have h0 := hext 0; have h1 := hext 1; have h2 := hext 2; have h3 := hext 3; have h4 := hext 4
    rw [if_pos hd] at h0 h1 h2 h3 h4
    rw [abs_of_pos hd] at hstart
    simp only [Fin.getElem_fin, Fin.val_rev] at h0 h1 h2 h3 h4
    norm_num at h0 h1 h2 h3 h4
    dsimp only
    omega
  · have h0 := hext 0; have h1 := hext 1; have h2 := hext 2; have h3 := hext 3; have h4 := hext 4
    rw [if_neg (not_lt.mpr hd)] at h0 h1 h2 h3 h4
    rw [abs_of_nonpos hd] at hstart
    simp only [Fin.getElem_fin, Fin.val_rev] at h0 h1 h2 h3 h4
    norm_num at h0 h1 h2 h3 h4
    dsimp only
    omega
  · have hat := distribute_at_stop htravel hk hstop
    exact ⟨fun hd => by simpa [hd] using hat, fun hd => by simpa [not_lt.mpr hd.le] using hat⟩

end Sys2Proof.Machine
end

section
/-! What a valid map guarantees (R41), and what every step keeps of the Kelly Map and the Extension Tracker (R37, R47 to
R49). -/

namespace Sys2Proof.Machine

/-! ## A valid map -/

theorem mem_junctionsUsed (m : MapItems) (k : Fin 5) : k ∈ junctionsUsed m ↔ junctionInUse m k = true := by
  have hall : ∀ k : Fin 5, k ∈ junctionIds := by decide
  simp [junctionsUsed, hall k]

section Valid
variable {m : MapItems} (hm : mapFault m = none)
include hm

theorem nestWindow_of_valid : 0 ≤ nestWindow m ∧ nestWindow m ≤ 500 :=
  (within_iff _ _ _).1 (mapCheck_passes_of_valid hm
    (c := { passes := within (nestWindow m) 0 500, reason := .constant, item := 2 }) (by simp [mapChecks, generalChecks]))

theorem lockWindow_of_valid : 5 ≤ lockWindow m ∧ lockWindow m ≤ 200 :=
  (within_iff _ _ _).1 (mapCheck_passes_of_valid hm
    (c := { passes := within (lockWindow m) 5 200, reason := .constant, item := 3 }) (by simp [mapChecks, generalChecks]))

theorem deadband_of_valid : 0 ≤ deadband m ∧ deadband m ≤ 100 :=
  (within_iff _ _ _).1 (mapCheck_passes_of_valid hm
    (c := { passes := within (deadband m) 0 100, reason := .constant, item := 4 }) (by simp [mapChecks, generalChecks]))

theorem lockTorque_of_valid : 1 ≤ lockTorque m ∧ lockTorque m ≤ 500 :=
  (within_iff _ _ _).1 (mapCheck_passes_of_valid hm
    (c := { passes := within (lockTorque m) 1 500, reason := .constant, item := 5 }) (by simp [mapChecks, generalChecks]))

variable {k : Fin 5} (hk : junctionInUse m k = true)
include hk

theorem travel_of_valid : 1000 ≤ junctionTravel m k ∧ junctionTravel m k ≤ 20000 :=
  (within_iff _ _ _).1 (junctionCheck_passes_of_valid hm ((mem_junctionsUsed m k).2 hk)
    (c := { passes := within (junctionTravel m k) 1000 20000, reason := .travel, item := junctionItem k 0 })
    (by simp [junctionChecks]))

theorem lockPointCount_of_valid : 0 ≤ lockPointCount m k ∧ lockPointCount m k ≤ 4 :=
  (within_iff _ _ _).1 (junctionCheck_passes_of_valid hm ((mem_junctionsUsed m k).2 hk)
    (c := { passes := within (lockPointCount m k) 0 4, reason := .lockCount, item := junctionItem k 4 })
    (by simp [junctionChecks]))

theorem mem_usedLocks_of_valid {i : Nat} (hi : (i : Int) < lockPointCount m k) : i ∈ usedLocks m k := by
  have hcount := lockPointCount_of_valid hm hk
  exact List.mem_range.2 (by omega)

theorem lockAscends_of_valid {i : Nat} (hi : (i : Int) < lockPointCount m k) (hpos : 0 < i) :
    lockPoint m k (i - 1) < lockPoint m k i := by
  have hpasses : lockAscends m k i = true := junctionCheck_passes_of_valid hm ((mem_junctionsUsed m k).2 hk)
    (c := { passes := lockAscends m k i, reason := .lockOrder, item := junctionItem k (5 + i) })
    (List.mem_append_left _ (List.mem_append_right _ (List.mem_map_of_mem (mem_usedLocks_of_valid hm hk hi))))
  simpa [lockAscends, hpos.ne'] using hpasses

theorem lockInWindow_of_valid {i : Nat} (hi : (i : Int) < lockPointCount m k) :
    nestWindow m + lockWindow m < lockPoint m k i ∧ lockPoint m k i < junctionTravel m k - lockWindow m := by
  have hpasses : lockInWindow m k i = true := junctionCheck_passes_of_valid hm ((mem_junctionsUsed m k).2 hk)
    (c := { passes := lockInWindow m k i, reason := .lockWindow, item := junctionItem k (5 + i) })
    (List.mem_append_right _ (List.mem_map_of_mem (mem_usedLocks_of_valid hm hk hi)))
  simpa [lockInWindow] using hpasses

/-- A lock point in use lies strictly inside the travel. -/
theorem lockPoint_inside {i : Nat} (hi : (i : Int) < lockPointCount m k) :
    0 < lockPoint m k i ∧ lockPoint m k i < junctionTravel m k := by
  have hwin := lockInWindow_of_valid hm hk hi
  have hnest := nestWindow_of_valid hm
  have hlock := lockWindow_of_valid hm
  omega

end Valid

/-! ## Junction records -/

theorem get_mapUsed (m : MapItems) (f : Fin 5 → Junction → Junction) (js : Vector Junction 5) (k : Fin 5) :
    (mapUsed m f js)[k] = if junctionInUse m k = true then f k js[k] else js[k] := by
  fin_cases k <;> rfl

theorem sum_map_filter {α : Type} (p : α → Bool) (f : α → Int) (l : List α) :
    ((l.filter p).map f).sum = (l.map fun x => if p x = true then f x else 0).sum := by
  induction l with
  | nil => rfl
  | cons x xs ih =>
    by_cases h : p x = true <;> simp [h, ih]

/-- Xt as a sum over all junctions, those above S counting 0 (R49). -/
theorem trackedExtension_eq (m : MapItems) (js : Vector Junction 5) :
    trackedExtension m js = (junctionIds.map fun k => if junctionInUse m k = true then js[k].ext else 0).sum :=
  sum_map_filter _ _ _

theorem trackedExtension_congr {m : MapItems} {js ks : Vector Junction 5}
    (h : ∀ k, junctionInUse m k = true → js[k].ext = ks[k].ext) : trackedExtension m js = trackedExtension m ks := by
  unfold trackedExtension
  congr 1
  exact List.map_congr_left fun k hk => h k ((mem_junctionsUsed m k).1 hk)

theorem trackedExtension_zero {m : MapItems} {js : Vector Junction 5}
    (h : ∀ k, junctionInUse m k = true → js[k].ext = 0) : trackedExtension m js = 0 := by
  rw [trackedExtension_eq]
  refine List.sum_eq_zero fun x hx => ?_
  obtain ⟨k, -, rfl⟩ := List.mem_map.1 hx
  split
  · exact h k ‹_›
  · rfl

theorem reset_junctionOk (m : MapItems) (k : Fin 5) : junctionOk m k Junction.reset := by
  simp [junctionOk, Junction.reset]

section Ok
variable {m : MapItems} (hm : mapFault m = none) {k : Fin 5} (hk : junctionInUse m k = true) {j : Junction}
include hm hk

theorem ext_of_junctionOk (hj : junctionOk m k j) : 0 ≤ j.ext ∧ j.ext ≤ junctionTravel m k := by
  obtain ⟨hnested, hfree, hfull, hlocked⟩ := hj
  have htravel := travel_of_valid hm hk
  cases hst : j.state with
  | nested =>
    have := hnested hst
    omega
  | free =>
    have := hfree hst
    omega
  | full =>
    have := hfull hst
    omega
  | locked =>
    obtain ⟨i, -, hext, hi⟩ := hlocked hst
    have := lockPoint_inside hm hk hi
    omega

/-- A record whose state follows from an extension within the travel keeps the table of R48. -/
theorem junctionOk_of_extension (hlock : j.lock = none) (hext : 0 ≤ j.ext ∧ j.ext ≤ junctionTravel m k)
    (hst : j.state = stateOfExtension (junctionTravel m k) j.ext) : junctionOk m k j := by
  have htravel := travel_of_valid hm hk
  unfold stateOfExtension at hst
  split at hst
  · rename_i h0
    exact ⟨fun _ => ⟨h0, hlock⟩, by simp [hst], by simp [hst], by simp [hst]⟩
  · split at hst
    · rename_i hfull
      exact ⟨by simp [hst], by simp [hst], fun _ => ⟨hfull, hlock⟩, by simp [hst]⟩
    · exact ⟨by simp [hst], fun _ => ⟨by omega, by omega, hlock⟩, by simp [hst], by simp [hst]⟩

theorem unlockJunction_ok (hj : junctionOk m k j) : junctionOk m k (unlockJunction j) := by
  unfold unlockJunction
  split
  · rename_i hst
    obtain ⟨-, -, -, hlocked⟩ := hj
    obtain ⟨i, -, hext, hi⟩ := hlocked hst
    have hinside := lockPoint_inside hm hk hi
    exact ⟨by simp, fun _ => ⟨by dsimp only; omega, by dsimp only; omega, rfl⟩, by simp, by simp⟩
  all_goals exact hj

end Ok

/-- A lock point that is taken is in use and its window holds the extension (R61). -/
theorem nearerLock_some {m : MapItems} {k : Fin 5} {e : Int} {best : Option (Fin 4)} {i p : Fin 4}
    (h : nearerLock m k e best i = some p) :
    best = some p ∨ (i = p ∧ (p.val : Int) < lockPointCount m k ∧ |e - lockPoint m k p| ≤ lockWindow m) := by
  unfold nearerLock at h
  split at h
  · rename_i hnear
    rw [magnitude_eq_abs] at hnear
    split at h
    · cases h
      exact .inr ⟨rfl, hnear⟩
    · split at h
      · cases h
        exact .inr ⟨rfl, hnear⟩
      · exact .inl h
  · exact .inl h

theorem foldl_nearerLock_some {m : MapItems} {k : Fin 5} {e : Int} {p : Fin 4} (l : List (Fin 4)) {best : Option (Fin 4)}
    (h : l.foldl (nearerLock m k e) best = some p) :
    best = some p ∨ ((p.val : Int) < lockPointCount m k ∧ |e - lockPoint m k p| ≤ lockWindow m) := by
  induction l generalizing best with
  | nil => exact .inl h
  | cons i is ih =>
    rcases ih h with hstep | hnear
    · exact (nearerLock_some hstep).imp_right And.right
    · exact .inr hnear

theorem lockPointFor_some {m : MapItems} {k : Fin 5} {e : Int} {p : Fin 4} (h : lockPointFor m k e = some p) :
    (p.val : Int) < lockPointCount m k ∧ |e - lockPoint m k p| ≤ lockWindow m :=
  (foldl_nearerLock_some _ h).resolve_left (by simp)

theorem lockJunction_ok {m : MapItems} {k : Fin 5} {j : Junction} (hj : junctionOk m k j) :
    junctionOk m k (lockJunction m k j) := by
  unfold lockJunction
  split
  · split
    · rename_i p hp
      exact ⟨by simp, by simp, by simp, fun _ => ⟨p, rfl, rfl, (lockPointFor_some hp).1⟩⟩
    · exact hj
  · split
    · rename_i p hp
      exact ⟨by simp, by simp, by simp, fun _ => ⟨p, rfl, rfl, (lockPointFor_some hp).1⟩⟩
    · exact hj
  all_goals exact hj

theorem unlockJunction_ext (j : Junction) : (unlockJunction j).ext = j.ext := by
  unfold unlockJunction
  split <;> rfl

/-! ## The tracker and its map -/

/-- `trackingOk` as a relation of the map and the tracker. -/
def tracksMap (k : KellyMap) (t : Tracker) : Prop :=
  (t.mode = .unmapped ↔ k.committed = false) ∧
  (k.committed = true → mapFault k.items = none) ∧
  (t.cause.isSome = true ↔ t.mode = .lost) ∧
  (∀ i : Fin 5, if k.committed && junctionInUse k.items i then junctionOk k.items i t.junctions[i]
    else t.junctions[i] = Junction.reset) ∧
  t.xt = trackedExtension k.items t.junctions

theorem trackingOk_iff (s : State) : trackingOk s ↔ tracksMap s.kelly s.tracker := Iff.rfl

section Tracks
variable {k : KellyMap} {t : Tracker}

theorem committed_of_mapped (h : tracksMap k t) (hmode : t.mode ≠ .unmapped) : k.committed = true := by
  have hnot : ¬ k.committed = false := fun hc => hmode (h.1.2 hc)
  simpa using hnot

theorem tracksMap_records (h : tracksMap k t) (hmode : t.mode ≠ .unmapped) (i : Fin 5) :
    if junctionInUse k.items i = true then junctionOk k.items i t.junctions[i] else t.junctions[i] = Junction.reset := by
  have hrecord := h.2.2.2.1 i
  rwa [committed_of_mapped h hmode, Bool.true_and] at hrecord

/-- A mapped tracker with other records that keep R48, and Xt formed from them. -/
theorem tracksMap_mapped (h : tracksMap k t) (hmode : t.mode ≠ .unmapped) {u : Tracker} (humode : u.mode ≠ .unmapped)
    (hcause : u.cause.isSome = true ↔ u.mode = .lost)
    (hused : ∀ i, junctionInUse k.items i = true → junctionOk k.items i t.junctions[i] → junctionOk k.items i u.junctions[i])
    (hunused : ∀ i, ¬ junctionInUse k.items i = true → u.junctions[i] = t.junctions[i])
    (hxt : u.xt = trackedExtension k.items u.junctions) : tracksMap k u := by
  have hc := committed_of_mapped h hmode
  refine ⟨by simp [humode, hc], h.2.1, hcause, fun i => ?_, hxt⟩
  have hrecord := tracksMap_records h hmode i
  rw [hc, Bool.true_and]
  by_cases hi : junctionInUse k.items i = true
  · rw [if_pos hi] at hrecord ⊢
    exact hused i hi hrecord
  · rw [if_neg hi] at hrecord ⊢
    rw [hunused i hi, hrecord]

theorem valid_of_mapped (h : tracksMap k t) (hmode : t.mode ≠ .unmapped) : mapFault k.items = none :=
  h.2.1 (committed_of_mapped h hmode)

theorem tracksMap_lose (h : tracksMap k t) (hmode : t.mode ≠ .unmapped) (c : LossCause) :
    tracksMap k { t with mode := .lost, cause := some c } :=
  tracksMap_mapped h hmode (by simp) (by simp) (fun _ _ => id) (fun _ _ => rfl) h.2.2.2.2

theorem tracksMap_resync (h : tracksMap k t) (hmode : t.mode ≠ .unmapped) : tracksMap k (t.resync k.items) := by
  refine tracksMap_mapped h hmode (by simp [Tracker.resync]) (by simp [Tracker.resync]) (fun i hi _ => ?_)
    (fun i hi => ?_) ?_
  · simp only [Tracker.resync, get_mapUsed, if_pos hi, reset_junctionOk]
  · simp only [Tracker.resync, get_mapUsed, if_neg hi]
  · refine Eq.symm (trackedExtension_zero fun i hi => ?_)
    simp only [Tracker.resync, get_mapUsed, if_pos hi, Junction.reset]

/-- In TRACKING, records that keep R48 and an Xt formed from them. -/
theorem tracksMap_tracking (h : tracksMap k t) (hmode : t.mode = .tracking) {js : Vector Junction 5} {xt : Int}
    (hused : ∀ i, junctionInUse k.items i = true → junctionOk k.items i t.junctions[i] → junctionOk k.items i js[i])
    (hunused : ∀ i, ¬ junctionInUse k.items i = true → js[i] = t.junctions[i])
    (hxt : xt = trackedExtension k.items js) : tracksMap k { t with junctions := js, xt := xt } :=
  tracksMap_mapped h (by simp [hmode]) (by simp [hmode]) h.2.2.1 hused hunused hxt

theorem withinTravel_of_tracks (h : tracksMap k t) (hmode : t.mode ≠ .unmapped) (i : Fin 5) :
    withinTravel k.items i t.junctions[i] := fun hi =>
  ext_of_junctionOk (valid_of_mapped h hmode) hi (by simpa [hi] using tracksMap_records h hmode i)

theorem tracksMap_distribute (h : tracksMap k t) (hmode : t.mode = .tracking) (d : Int) :
    tracksMap k (t.withJunctions k.items (distribute k.items d t.junctions).2) := by
  have hmapped : t.mode ≠ .unmapped := by simp [hmode]
  have htravel := withinTravel_of_tracks h hmapped
  refine tracksMap_tracking h hmode (fun i hi hj => ?_) (fun i hi => distribute_passed fun htaken => hi htaken.1) rfl
  by_cases hmoved : (distribute k.items d t.junctions).2[i].ext = t.junctions[i].ext
  · rw [distribute_unmoved hmoved]
    exact hj
  · obtain ⟨hlock, hst⟩ := distribute_moved hmoved
    exact junctionOk_of_extension (valid_of_mapped h hmapped) hi hlock (distribute_withinTravel htravel i hi) hst

theorem tracksMap_lock (h : tracksMap k t) (hmode : t.mode = .tracking) :
    tracksMap k (t.withJunctions k.items (mapUsed k.items (lockJunction k.items) t.junctions)) :=
  tracksMap_tracking h hmode (fun i hi hj => by rw [get_mapUsed, if_pos hi]; exact lockJunction_ok hj)
    (fun i hi => by rw [get_mapUsed, if_neg hi]) rfl

theorem tracksMap_unlock (h : tracksMap k t) (hmode : t.mode = .tracking) :
    tracksMap k { t with junctions := mapUsed k.items (fun _ => unlockJunction) t.junctions } := by
  refine tracksMap_tracking h hmode (fun i hi hj => ?_) (fun i hi => by rw [get_mapUsed, if_neg hi]) ?_
  · rw [get_mapUsed, if_pos hi]
    exact unlockJunction_ok (valid_of_mapped h (by simp [hmode])) hi hj
  · rw [h.2.2.2.2]
    exact trackedExtension_congr fun i hi => by rw [get_mapUsed, if_pos hi, unlockJunction_ext]

theorem get_resetRecords (i : Fin 5) : (Vector.replicate 5 Junction.reset)[i] = Junction.reset := by simp

theorem tracksMap_unmap (t : Tracker) (items : MapItems) :
    tracksMap { items := items, committed := false } t.unmap :=
  ⟨by simp [Tracker.unmap], by simp, by simp [Tracker.unmap], fun i => get_resetRecords i,
    (trackedExtension_zero fun i _ => congrArg Junction.ext (get_resetRecords i)).symm⟩

/-- A commit finds the records of an earlier commit, or all of them at their full-reset values. -/
theorem tracksMap_commit (h : tracksMap k t) (hv : mapFault k.items = none) :
    tracksMap { k with committed := true } { t with mode := .seeking, cause := none } := by
  refine ⟨by simp, fun _ => hv, by simp, fun i => ?_, h.2.2.2.2⟩
  have hrecord := h.2.2.2.1 i
  rw [Bool.true_and]
  cases hc : k.committed with
  | true => rwa [hc, Bool.true_and] at hrecord
  | false =>
    rw [hc, Bool.false_and, if_neg (by simp)] at hrecord
    split
    · exact hrecord ▸ reset_junctionOk k.items i
    · exact hrecord

theorem tracksMap_restart (h : tracksMap k t) (x : Int) :
    tracksMap k { t with mode := if k.committed then .seeking else .unmapped, cause := none, xm := x } :=
  ⟨by cases k.committed <;> simp, h.2.1, by cases k.committed <;> simp, h.2.2.2⟩

end Tracks

/-! ## The tracker's work -/

theorem trackingOk_of_same {s t : State} (h : t.tracker = s.tracker) (hk : t.kelly = s.kelly) (hs : trackingOk s) :
    trackingOk t := by
  rw [trackingOk_iff, h, hk]
  exact hs

theorem trackingOk_of_frame {l : List Block} {s t : State} (h : unchangedExcept l s t) (hl : Block.tracker ∉ l)
    (hk : Block.kelly ∉ l) (hs : trackingOk s) : trackingOk t := trackingOk_of_same (h.2 .tracker hl) (h.2 .kelly hk) hs

theorem trackerLose_trackingOk {s : State} (c : LossCause) (hmode : s.tracker.mode ≠ .unmapped) (hs : trackingOk s) :
    trackingOk (s.trackerLose c) := tracksMap_lose hs hmode c

theorem positionTests_trackingOk {s : State} (hs : trackingOk s) : trackingOk s.positionTests := by
  unfold State.positionTests
  split
  · exact hs
  · rename_i hmapped
    split
    · split
      · exact trackerLose_trackingOk _ hmapped hs
      · exact hs
    · split
      · exact tracksMap_resync hs hmapped
      · split
        · exact hs
        · rename_i htracking
          rw [ne_eq, not_not] at htracking
          split
          · exact trackerLose_trackingOk _ hmapped hs
          · split
            · exact hs
            · unfold State.trackerDistribute
              dsimp only
              split
              · exact tracksMap_distribute hs htracking _
              · exact trackerLose_trackingOk _ hmapped hs

theorem pressureUpdate_trackingOk {s : State} (hs : trackingOk s) : trackingOk s.pressureUpdate := by
  unfold State.pressureUpdate
  split
  · exact hs
  · rename_i htracking
    rw [ne_eq, not_not] at htracking
    split
    · exact tracksMap_lock hs htracking
    · split
      · exact tracksMap_unlock hs htracking
      · exact hs

theorem trackerSlotEvent_trackingOk {s : State} (i : SlotId) (hs : trackingOk s) : trackingOk (s.trackerSlotEvent i) := by
  unfold State.trackerSlotEvent
  split
  · exact positionTests_trackingOk (s := s.withTracker { s.tracker with xm := s.extensionNow }) hs
  · split
    · exact pressureUpdate_trackingOk hs
    · exact hs

theorem slotEvent_tracker (s : State) (i : SlotId) : (s.slotEvent i).tracker = (s.trackerSlotEvent i).tracker := by
  have hbite := fun c => (biteSlotEvent_frame (s.trackerSlotEvent i) i c).2 .tracker (by decide)
  unfold State.slotEvent
  dsimp only
  split
  · exact ((overloadTest_frame _).2 .tracker (by decide)).trans (hbite _)
  · exact hbite _

theorem deliverSlot_trackingOk {s : State} (i : SlotId) (hs : trackingOk s) : trackingOk (s.deliverSlot i) := by
  have hrefresh : trackingOk (s.refreshDerived i) :=
    trackingOk_of_frame (refreshDerived_frame s i) (by decide) (by decide) hs
  have htracked := trackerSlotEvent_trackingOk i hrefresh
  have hkelly : ((s.refreshDerived i).slotEvent i).kelly = ((s.refreshDerived i).trackerSlotEvent i).kelly :=
    ((slotEvent_frame _ i).2 .kelly (by decide)).trans ((trackerSlotEvent_frame _ i).2 .kelly (by decide)).symm
  exact trackingOk_of_same (slotEvent_tracker (s.refreshDerived i) i) hkelly htracked

theorem storeSlot_trackingOk {s : State} (i : SlotId) (r : Slot) (hs : trackingOk s) : trackingOk (s.storeSlot i r) :=
  trackingOk_of_frame (storeSlot_frame s i r) (by decide) (by decide) hs

theorem judgeSlot_trackingOk {s : State} (i : SlotId) (r : Slot) (hs : trackingOk s) : trackingOk (s.judgeSlot i r) := by
  unfold State.judgeSlot
  dsimp only
  split
  · exact storeSlot_trackingOk i r hs
  · exact deliverSlot_trackingOk i (storeSlot_trackingOk i r hs)

theorem configureSlot_trackingOk {s : State} (i : SlotId) (c : SlotConfig) (hs : trackingOk s) :
    trackingOk (s.configureSlot i c) := by
  unfold State.configureSlot
  dsimp only
  split
  · exact hs
  · exact deliverSlot_trackingOk i (s := s.withSignal _) hs

theorem writeSlotItem_trackingOk {s t : State} {i : SlotId} {j : Nat} {v : Int} (h : s.writeSlotItem i j v = some t)
    (hs : trackingOk s) : trackingOk t := by
  rcases writeSlotItem_cases h with ⟨on, -, -, rfl⟩ | ⟨on, -, -, rfl⟩ | ⟨c, -, rfl⟩
  · exact judgeSlot_trackingOk i _ hs
  · exact judgeSlot_trackingOk i _ hs
  · exact configureSlot_trackingOk i c hs

theorem event_trackingOk {s t : State} (h : Event s t) (hs : trackingOk s) : trackingOk t := by
  cases h with
  | wait | millisecond | report | reply | status | stopReleased => exact hs
  | sample i v => exact deliverSlot_trackingOk i (storeSlot_trackingOk i _ hs)
  | forward port f hf =>
    exact trackingOk_of_frame (forward_frame s port f) (by cases port <;> decide) (by cases port <;> decide) hs
  | complete port =>
    exact trackingOk_of_frame (withPort_frame s port _) (by cases port <;> decide) (by cases port <;> decide) hs
  | recover port =>
    exact trackingOk_of_frame (withPort_frame s port _) (by cases port <;> decide) (by cases port <;> decide) hs
  | fail port ho =>
    have hport := trackingOk_of_frame (withPort_frame s port (s.port port).fail) (by cases port <;> decide)
      (by cases port <;> decide) hs
    cases port with
    | cab => exact hport
    | drive => exact trackingOk_of_frame (reportTrip_frame _ .driveLinkDown) (by decide) (by decide) hport
  | commandAbsent => exact trackingOk_of_frame (commandAbsent_frame s) (by decide) (by decide) hs
  | slotAbsent i => exact judgeSlot_trackingOk i _ hs
  | noProgress => exact trackingOk_of_frame (noProgress_frame s) (by decide) (by decide) hs
  | settleOver => exact trackingOk_of_frame (settleOver_frame s) (by decide) (by decide) hs
  | stopAsserted =>
    exact trackingOk_of_frame (reportTrip_frame (s.withStop .asserted) .stopLine) (by decide) (by decide) hs

theorem deliverTrackerChange_tracker (s : State) (x : TrackerMode) : (s.deliverTrackerChange x).tracker = s.tracker :=
  (deliverTrackerChange_frame s x).2 .tracker (by decide)

theorem restartBlocks_tracker (s : State) : s.restartBlocks.tracker =
    { s.tracker with
      mode := if s.kelly.committed then .seeking else .unmapped, cause := none, xm := s.restartBlocks.extensionNow } := by
  have habort := biteOutsideAbort_frame s.restartBanks
  have htrk : s.restartBanks.biteOutsideAbort.tracker = s.tracker := habort.2 .tracker (by decide)
  have hkel : s.restartBanks.biteOutsideAbort.kelly = s.kelly := habort.2 .kelly (by decide)
  unfold State.restartBlocks
  generalize s.restartBanks.biteOutsideAbort = u at htrk hkel
  simp only [State.restartFaults, State.restartTracker, State.restartSlots, State.refreshTorque, State.refreshCrowd,
    State.extensionNow, State.effective, State.withFaults_signal, State.withFaults_kelly, State.withFaults_tracker,
    State.withCommandTimer_signal, State.withCommandTimer_kelly, State.withCommandTimer_tracker, State.withTracker_signal,
    State.withTracker_kelly, State.withTracker_tracker, State.withSignal_tracker, State.withSignal_kelly,
    State.withChan_tracker, State.withChan_kelly, State.withCond_tracker, State.withCond_kelly, htrk, hkel]

theorem restart_trackingOk {s : State} (hs : trackingOk s) : trackingOk s.restart := by
  have hblocks : trackingOk s.restartBlocks := by
    rw [trackingOk_iff, (restartBlocks_signal s).2, restartBlocks_tracker]
    exact tracksMap_restart hs _
  exact trackingOk_of_frame (reportCauses_frame s.restartBlocks) (by decide) (by decide) hblocks

theorem effect_trackingOk {s t : State} (h : Effect s t) (hs : trackingOk s) : trackingOk t := by
  cases h with
  | none | writeLink | openBank | switchWaits | cancel | linkMode | writeRoute | switchActs | channelMode => exact hs
  | writeBank m bank i v hb hp => exact trackingOk_of_frame (afterBankWrite_frame _ m bank) (by decide) (by decide) hs
  | writeMap i v hm =>
    refine trackingOk_of_frame (refreshMapped_frame _ i) (by decide) (by decide) ?_
    exact trackingOk_of_same (deliverTrackerChange_tracker _ _) (deliverTrackerChange_kelly _ _)
      (tracksMap_unmap s.tracker _)
  | writeSignal i j v h => exact writeSlotItem_trackingOk h hs
  | commitMap hm hv =>
    exact trackingOk_of_same (deliverTrackerChange_tracker _ _) (deliverTrackerChange_kelly _ _) (tracksMap_commit hs hv)
  | ack c hl hh ha => exact trackingOk_of_frame (clearLatch_frame _ c) (by decide) (by decide) hs
  | restart hl => exact restart_trackingOk hs

theorem reset_trackingOk (rest : List Instr) (straps : BitVec 4) (stop : StopLevel) :
    trackingOk (State.fullReset rest straps stop) := tracksMap_unmap Tracker.reset KellyMap.reset.items

theorem fullReset_trackingOk (rest : List Instr) (straps : BitVec 4) (stop : StopLevel) :
    trackingOk (State.fullReset rest straps stop).reportStopLine :=
  trackingOk_of_frame (fullReset_frame rest straps stop) (by decide) (by decide) (reset_trackingOk rest straps stop)

theorem step_trackingOk {s t : State} (h : step s = .next t) (hs : trackingOk s) : trackingOk t :=
  step_keeps fullReset_trackingOk
    (fun s data _ => trackingOk_of_frame (command_frame s data _ _) (by decide) (by decide))
    effect_trackingOk event_trackingOk h hs

/-- Settles O57: every event and every effect keeps the three. -/
theorem routesSignalAndTrackingKept : Obligations.RoutesSignalAndTrackingKept := fun _ _ h =>
  ⟨step_routesOk h, step_signalOk h, step_trackingOk h⟩

end Sys2Proof.Machine
end

section
/-! What every step keeps of the conditioner record and of Channel Control (R70, R75, R97, R104 to R109): hold targets with
modes, latches with counts, setpoints within their ranges. -/

namespace Sys2Proof.Machine

/-! ## Latches and counts -/

/-- Each channel's drive-following monitor is in order. -/
def followsOk (f : PerChannel Follow) : Prop := ∀ c, followOk c (f.get c)

/-- A SET overload latch has its count at 0 (R108). -/
def overloadOk (x : ChannelControl) : Prop := x.overloadLatch = true → x.overloadCount = 0

/-- A SET stall latch has its count at 0 (R78). -/
def stallOk (x : Conditioner) : Prop := x.stallLatch = true → x.stallCount = 0

theorem channelsOk_iff (s : State) : channelsOk s ↔
    (∀ c, ((s.cond.hold.get c).isSome = true ↔ s.chan.mode.get c = .hold)) ∧ followsOk s.chan.follow ∧
      overloadOk s.chan ∧ stallOk s.cond ∧ s.chan.stopLine = s.stopInput := Iff.rfl

theorem get_set {α : Type} (p : PerChannel α) (c d : Channel) (x : α) :
    (p.set c x).get d = if d = c then x else p.get d := by
  cases c <;> cases d <;> rfl

theorem cleared_followOk (c : Channel) (f : Follow) : followOk c f.cleared :=
  ⟨fun _ => rfl, by split <;> simp [Follow.cleared]⟩

theorem rest_followOk (c : Channel) : followOk c Follow.rest := ⟨fun _ => rfl, by split <;> simp [Follow.rest]⟩

theorem followTest_followOk (valid : Bool) (b : Bank) (c : Channel) (x pos : Int) {f : Follow} (hf : followOk c f) :
    followOk c (followTest valid b c x pos f).1 := by
  unfold followTest
  split
  · exact cleared_followOk c f
  · rename_i hcounts
    have hlatch : f.latch = false := by simp_all
    split
    · exact cleared_followOk c f
    · split
      · exact cleared_followOk c f
      · split
        · exact ⟨fun _ => rfl, by split <;> simp⟩
        · refine ⟨by simp [hlatch], ?_⟩
          split
          · simp
          · rename_i hc
            have href : f.ref.isSome = true ↔ 0 < f.count := by simpa [hc] using hf.2
            by_cases h0 : f.count = 0 <;> simp [h0, href, Nat.pos_iff_ne_zero]

theorem followChannel_followsOk {s : State} (c : Channel) (x : Int) (hs : followsOk s.chan.follow) :
    followsOk (s.followChannel c x).chan.follow := fun d => by
  rw [followChannel_chan]
  unfold ChannelControl.withFollow
  rw [get_set]
  split
  · rename_i h
    rw [h]
    exact followTest_followOk _ _ _ _ _ (hs c)
  · exact hs d

theorem followFrame_followsOk {s : State} (sp : PerChannel Int) (hs : followsOk s.chan.follow) :
    followsOk (s.followFrame sp).chan.follow :=
  followChannel_followsOk _ _ (followChannel_followsOk _ _ (followChannel_followsOk _ _ hs))

theorem zeroFrame_followsOk {s : State} (hs : followsOk s.chan.follow) : followsOk s.zeroFrame.chan.follow :=
  followFrame_followsOk (s := (s.queueDrive zeroSetpoints .zeroFrame s.lastSeq).withPrev zeroSetpoints) _ hs

theorem goNeutral_followsOk {s : State} (hs : followsOk s.chan.follow) : followsOk s.goNeutral.chan.follow := by
  have hchan : s.goNeutral.chan = s.zeroFrame.chan := (biteOutsideAbort_frame s.zeroFrame).2 .chan (by decide)
  rw [hchan]
  exact zeroFrame_followsOk hs

theorem reportTrip_followsOk {s : State} (c : Cause) (hs : followsOk s.chan.follow) :
    followsOk (s.reportTrip c).chan.follow := by
  rcases reportTrip_cases s c with ⟨-, h⟩ | ⟨-, -, h⟩ | ⟨-, -, h⟩ <;> rw [h]
  · exact hs
  · exact goNeutral_followsOk (s := (s.record c).withFaults _) hs
  · exact goNeutral_followsOk (s := (s.record c).withFaults _) hs

theorem commandAbsent_followsOk {s : State} (hs : followsOk s.chan.follow) : followsOk s.commandAbsent.chan.follow := by
  have hchan : s.commandAbsent.chan = (s.withCommandTimer s.link.cmdTimeout).zeroFrame.chan :=
    (biteOutsideAbort_frame _).2 .chan (by decide)
  rw [hchan]
  exact zeroFrame_followsOk (s := s.withCommandTimer s.link.cmdTimeout) hs

theorem emit_followsOk {s : State} (sp : PerChannel Int) (f : LimitFlags) (q : Byte) (hs : followsOk s.chan.follow) :
    followsOk (s.emit sp f q).chan.follow := by
  unfold State.emit
  split
  · exact followFrame_followsOk (s := (s.queueDrive sp f q).withPrev sp) _ hs
  · exact followFrame_followsOk
      (s := ((s.queueCab .echo (setpointData sp f q)).queueDrive zeroSetpoints .zeroFrame q).withPrev sp) _ hs

theorem overloadTest_overloadOk (s : State) : overloadOk s.overloadTest.chan := by
  unfold State.overloadTest
  split
  · exact fun _ => rfl
  · rename_i hcounts
    have hlatch : s.chan.overloadLatch = false := by simp_all
    split
    · split
      · exact fun _ => rfl
      · exact fun h => absurd (hlatch.symm.trans h) Bool.false_ne_true
    · exact fun _ => rfl

theorem slotEvent_overloadOk {s : State} (i : SlotId) (hs : overloadOk s.chan) : overloadOk (s.slotEvent i).chan := by
  have hbite : ∀ c, ((s.trackerSlotEvent i).biteSlotEvent i c).chan = s.chan := fun c => by
    rw [(biteSlotEvent_frame _ _ _).2 .chan (by decide), (trackerSlotEvent_frame s i).2 .chan (by decide)]
  unfold State.slotEvent
  dsimp only
  split
  · exact overloadTest_overloadOk _
  · rw [hbite]
    exact hs

theorem deliverSlot_overloadOk {s : State} (i : SlotId) (hs : overloadOk s.chan) : overloadOk (s.deliverSlot i).chan :=
  slotEvent_overloadOk i (by rw [(refreshDerived_frame s i).2 .chan (by decide)]; exact hs)

theorem storeSlot_chan (s : State) (i : SlotId) (r : Slot) : (s.storeSlot i r).chan = s.chan :=
  (storeSlot_frame s i r).2 .chan (by decide)

theorem takeSample_overloadOk {s : State} (i : SlotId) (v : Int) (hs : overloadOk s.chan) :
    overloadOk (s.takeSample i v).chan := deliverSlot_overloadOk i (by rw [storeSlot_chan]; exact hs)

theorem judgeSlot_overloadOk {s : State} (i : SlotId) (r : Slot) (hs : overloadOk s.chan) :
    overloadOk (s.judgeSlot i r).chan := by
  have hstored : overloadOk (s.storeSlot i r).chan := by rw [storeSlot_chan]; exact hs
  unfold State.judgeSlot
  dsimp only
  split
  · exact hstored
  · exact deliverSlot_overloadOk i hstored

theorem writeSlotItem_overloadOk {s t : State} {i : SlotId} {j : Nat} {v : Int} (h : s.writeSlotItem i j v = some t)
    (hs : overloadOk s.chan) : overloadOk t.chan := by
  rcases writeSlotItem_cases h with ⟨on, -, -, rfl⟩ | ⟨on, -, -, rfl⟩ | ⟨c, -, rfl⟩
  · exact judgeSlot_overloadOk i _ hs
  · exact judgeSlot_overloadOk i _ hs
  · unfold State.configureSlot
    dsimp only
    split
    · exact hs
    · exact deliverSlot_overloadOk i (s := s.withSignal _) hs

theorem stallStep_stallOk (b : Bank) (a speed : Int) (latch : Bool) (count : Nat) :
    (stallStep b a speed latch count).1 = true → (stallStep b a speed latch count).2.1 = 0 := by
  unfold stallStep
  split_ifs <;> simp

theorem stageOutput_stallOk {s : State} (r : PerChannel Int) (hs : stallOk s.cond) :
    (s.stageOutput r).latch = true → (s.stageOutput r).count = 0 := by
  unfold State.stageOutput
  split
  · exact stallStep_stallOk _ _ _ _ _
  · exact hs

/-! ## The conditioner record over an event -/

theorem reportTrip_cond (s : State) (c : Cause) :
    (s.reportTrip c).cond = s.cond ∨ (s.reportTrip c).cond = { s.cond with prev := zeroSetpoints } := by
  rcases reportTrip_cases s c with ⟨-, h⟩ | ⟨-, -, h⟩ | ⟨-, -, h⟩ <;> rw [h]
  · exact .inl rfl
  · exact .inr (goNeutral_cond _)
  · exact .inr (goNeutral_cond _)

theorem event_cond {s t : State} (h : Event s t) : t.cond = s.cond ∨ t.cond = { s.cond with prev := zeroSetpoints } := by
  cases h with
  | wait | millisecond | report | reply | status | stopReleased => exact .inl rfl
  | sample i v => exact .inl ((takeSample_frame s i v).2 .cond (by decide))
  | forward port f hf => exact .inl ((forward_frame s port f).2 .cond (by cases port <;> decide))
  | complete port | recover port => exact .inl ((withPort_frame s port _).2 .cond (by cases port <;> decide))
  | fail port ho =>
    have hport : (s.withPort port (s.port port).fail).cond = s.cond :=
      (withPort_frame s port _).2 .cond (by cases port <;> decide)
    rw [← hport]
    cases port with
    | cab => exact .inl rfl
    | drive => exact reportTrip_cond _ _
  | commandAbsent => exact .inr (commandAbsent_cond s)
  | slotAbsent i => exact .inl ((slotAbsent_frame s i).2 .cond (by decide))
  | noProgress => exact .inl ((noProgress_frame s).2 .cond (by decide))
  | settleOver => exact .inl ((settleOver_frame s).2 .cond (by decide))
  | stopAsserted => exact reportTrip_cond (s.withStop .asserted) .stopLine

/-- What an event may do to Channel Control: monitors and the overload monitor in order, and the STOP line read (R100). -/
def chanKept (s t : State) : Prop :=
  t.chan.mode = s.chan.mode ∧ (followsOk s.chan.follow → followsOk t.chan.follow) ∧
    (overloadOk s.chan → overloadOk t.chan) ∧ (s.chan.stopLine = s.stopInput → t.chan.stopLine = t.stopInput)

theorem chanKept_of_same {s t : State} (h : t.chan = s.chan) (hi : t.stopInput = s.stopInput) : chanKept s t := by
  rw [chanKept, h, hi]
  exact ⟨rfl, id, id, id⟩

theorem chanKept_of_frame {l : List Block} {s t : State} (h : unchangedExcept l s t) (hl : Block.chan ∉ l)
    (hi : Block.stopInput ∉ l) : chanKept s t := chanKept_of_same (h.2 .chan hl) (h.2 .stopInput hi)

/-- Only the monitors differ. -/
theorem chanKept_of_follow {s t : State} (h : t.chan = { s.chan with follow := t.chan.follow })
    (hf : followsOk s.chan.follow → followsOk t.chan.follow) (hi : t.stopInput = s.stopInput) : chanKept s t := by
  refine ⟨by rw [h], hf, ?_, ?_⟩
  · rw [h]
    exact id
  · rw [h, hi]
    exact id

/-- Only the overload monitor differs. -/
theorem chanKept_of_overload {s t : State}
    (h : t.chan = { s.chan with overloadLatch := t.chan.overloadLatch, overloadCount := t.chan.overloadCount })
    (ho : overloadOk s.chan → overloadOk t.chan) (hi : t.stopInput = s.stopInput) : chanKept s t := by
  refine ⟨by rw [h], ?_, ho, ?_⟩
  · rw [h]
    exact id
  · rw [h, hi]
    exact id

theorem chanKept_trans {s t u : State} (h₁ : chanKept s t) (h₂ : chanKept t u) : chanKept s u :=
  ⟨h₂.1.trans h₁.1, h₂.2.1 ∘ h₁.2.1, h₂.2.2.1 ∘ h₁.2.2.1, h₂.2.2.2 ∘ h₁.2.2.2⟩

theorem reportTrip_chanKept (s : State) (c : Cause) : chanKept s (s.reportTrip c) :=
  chanKept_of_follow (reportTrip_chan s c) (reportTrip_followsOk c) ((reportTrip_frame s c).2 .stopInput (by decide))

theorem event_chanKept {s t : State} (h : Event s t) : chanKept s t := by
  cases h with
  | wait | millisecond | report | reply | status => exact chanKept_of_same rfl rfl
  | sample i v =>
    exact chanKept_of_overload (takeSample_chan s i v) (takeSample_overloadOk i v)
      ((takeSample_frame s i v).2 .stopInput (by decide))
  | forward port f hf => exact chanKept_of_frame (forward_frame s port f) (by cases port <;> decide) (by cases port <;> decide)
  | complete port | recover port =>
    exact chanKept_of_frame (withPort_frame s port _) (by cases port <;> decide) (by cases port <;> decide)
  | fail port ho =>
    refine chanKept_trans (chanKept_of_frame (withPort_frame s port (s.port port).fail) (by cases port <;> decide)
      (by cases port <;> decide)) ?_
    cases port with
    | cab => exact chanKept_of_same rfl rfl
    | drive => exact reportTrip_chanKept _ _
  | commandAbsent =>
    exact chanKept_of_follow (commandAbsent_chan s) commandAbsent_followsOk
      ((commandAbsent_frame s).2 .stopInput (by decide))
  | slotAbsent i =>
    exact chanKept_of_overload (judgeSlot_chan s i _) (judgeSlot_overloadOk i _)
      ((slotAbsent_frame s i).2 .stopInput (by decide))
  | noProgress => exact chanKept_of_frame (noProgress_frame s) (by decide) (by decide)
  | settleOver => exact chanKept_of_frame (settleOver_frame s) (by decide) (by decide)
  | stopAsserted =>
    exact chanKept_trans (t := s.withStop .asserted) ⟨rfl, id, id, fun _ => rfl⟩ (reportTrip_chanKept _ _)
  | stopReleased => exact ⟨rfl, id, id, fun _ => rfl⟩

theorem channelsOk_of_kept {s t : State} (h : chanKept s t) (hhold : t.cond.hold = s.cond.hold)
    (hstall : stallOk s.cond → stallOk t.cond) (hs : channelsOk s) : channelsOk t := by
  obtain ⟨hmode, hfollow, hover, hstop⟩ := h
  obtain ⟨hholds, hfollows, hoverload, hstalled, hline⟩ := (channelsOk_iff s).1 hs
  exact ⟨by rw [hhold, hmode]; exact hholds, hfollow hfollows, hover hoverload, hstall hstalled, hstop hline⟩

theorem event_channelsOk {s t : State} (h : Event s t) (hs : channelsOk s) : channelsOk t := by
  have hkept : t.cond.hold = s.cond.hold ∧ (stallOk s.cond → stallOk t.cond) := by
    rcases event_cond h with hc | hc <;> rw [hc] <;> exact ⟨rfl, id⟩
  exact channelsOk_of_kept (event_chanKept h) hkept.1 hkept.2 hs

/-! ## The taken command -/

theorem handOff_cond (s : State) (n : Nat) : (s.handOff n).cond = { s.cond with action := (s.handOff n).cond.action } := by
  unfold State.handOff
  split
  · rfl
  · rename_i a _
    split
    · have hcond : (s.biteAction a).cond = s.cond := (biteAction_frame s a).2 .cond (by decide)
      simp only [State.withAction, State.withCond_cond, hcond]
    · rfl

theorem handedOff_cond (s : State) (data : List Byte) :
    (s.handedOff data).cond = { s.cond with action := (s.handedOff data).cond.action } :=
  handOff_cond (s.acceptCommand data) _

theorem command_cond (s : State) (data : List Byte) (r : PerChannel Int) (q : Byte) :
    ((s.handedOff data).conditionCommand r q).cond =
      { s.cond with
        prev := ((s.handedOff data).stageOutput r).sent, stallLatch := ((s.handedOff data).stageOutput r).latch
        stallCount := ((s.handedOff data).stageOutput r).count, action := (s.handedOff data).cond.action } := by
  rw [conditionCommand_cond, handedOff_cond]

theorem handedOff_stallOk {s : State} (data : List Byte) (hs : stallOk s.cond) : stallOk (s.handedOff data).cond := by
  rw [handedOff_cond]
  exact hs

theorem command_channelsOk {s : State} (data : List Byte) (r : PerChannel Int) (q : Byte) (hs : channelsOk s) :
    channelsOk ((s.handedOff data).conditionCommand r q) := by
  have hfollow : followsOk s.chan.follow → followsOk ((s.handedOff data).conditionCommand r q).chan.follow := fun hf =>
    emit_followsOk _ _ _ (by
      rw [(applyStall_frame _ _).2 .chan (by decide), (handedOff_frame s data).2 .chan (by decide)]
      exact hf)
  refine channelsOk_of_kept (chanKept_of_follow (command_chan s data r q) hfollow
    ((command_frame s data r q).2 .stopInput (by decide))) (by rw [command_cond]) (fun hstall => ?_) hs
  rw [command_cond]
  exact stageOutput_stallOk r (handedOff_stallOk data hstall)

/-! ## Requests -/

theorem restartBlocks_cond (s : State) : s.restartBlocks.cond = s.cond.restarted := by
  have hcond : s.restartBanks.biteOutsideAbort.cond = s.cond :=
    (biteOutsideAbort_frame s.restartBanks).2 .cond (by decide)
  rw [← hcond]
  rfl

theorem restartBlocks_chan (s : State) : s.restartBlocks.chan = s.chan.restarted s.stopInput := by
  have habort := biteOutsideAbort_frame s.restartBanks
  have hchan : s.restartBanks.biteOutsideAbort.chan = s.chan := habort.2 .chan (by decide)
  have hinput : s.restartBanks.biteOutsideAbort.stopInput = s.stopInput := habort.2 .stopInput (by decide)
  rw [← hchan, ← hinput]
  rfl

theorem const_get {α : Type} (x : α) (c : Channel) : (PerChannel.const x).get c = x := by cases c <;> rfl

theorem const_rest_followsOk : followsOk (PerChannel.const Follow.rest) := fun c => by
  rw [const_get]
  exact rest_followOk c

theorem reportTrip_channelsOk {s : State} (c : Cause) (hs : channelsOk s) : channelsOk (s.reportTrip c) := by
  have hkept : (s.reportTrip c).cond.hold = s.cond.hold ∧ (stallOk s.cond → stallOk (s.reportTrip c).cond) := by
    rcases reportTrip_cond s c with hc | hc <;> rw [hc] <;> exact ⟨rfl, id⟩
  exact channelsOk_of_kept (reportTrip_chanKept s c) hkept.1 hkept.2 hs

theorem reportCauses_channelsOk {s : State} (hs : channelsOk s) : channelsOk s.reportStopLine.reportDriveLink := by
  have hstop : channelsOk s.reportStopLine := by
    unfold State.reportStopLine
    split
    · exact reportTrip_channelsOk _ hs
    · exact hs
  unfold State.reportDriveLink
  split
  · exact reportTrip_channelsOk _ hstop
  · exact hstop

theorem restart_channelsOk {s : State} (hs : channelsOk s) : channelsOk s.restart := by
  refine reportCauses_channelsOk ?_
  rw [channelsOk_iff, restartBlocks_cond, restartBlocks_chan, (restartBlocks_frame s).2 .stopInput (by decide)]
  exact ⟨hs.1, const_rest_followsOk, fun _ => rfl, fun _ => rfl, rfl⟩

theorem clearLatch_chanKept (s : State) (c : Cause) : chanKept s (s.clearLatch c) := by
  unfold State.clearLatch
  split
  · rename_i ch
    refine ⟨rfl, fun hf d => ?_, id, id⟩
    change followOk d ((s.chan.follow.set ch Follow.rest).get d)
    rw [get_set]
    split
    · exact rest_followOk d
    · exact hf d
  · exact ⟨rfl, id, fun _ _ => rfl, id⟩
  · exact chanKept_of_same rfl rfl

theorem holdAfter_isSome (before after : ChannelMode) (hold : Option Int) (prev : Int)
    (h : hold.isSome = true ↔ before = .hold) : (holdAfter before after hold prev).isSome = true ↔ after = .hold := by
  cases before <;> cases after <;> simp_all [holdAfter]

theorem changeMode_channelsOk {s : State} (c : Channel) (x : ChannelMode) (hs : channelsOk s) :
    channelsOk (s.changeMode c x) := by
  obtain ⟨hholds, hrest⟩ := (channelsOk_iff s).1 hs
  refine ⟨fun d => ?_, hrest⟩
  change ((s.cond.hold.set c _).get d).isSome = true ↔ (s.chan.mode.set c x).get d = .hold
  rw [get_set, get_set]
  split
  · exact holdAfter_isSome _ _ _ _ (hholds c)
  · exact hholds d

theorem channelsOk_of_frame {l : List Block} {s t : State} (h : unchangedExcept l s t) (hc : Block.chan ∉ l)
    (hd : Block.cond ∉ l) (hi : Block.stopInput ∉ l) (hs : channelsOk s) : channelsOk t := by
  have hcond : t.cond = s.cond := h.2 .cond hd
  exact channelsOk_of_kept (chanKept_of_frame h hc hi) (by rw [hcond]) (by rw [hcond]; exact id) hs

theorem effect_channelsOk {s t : State} (h : Effect s t) (hs : channelsOk s) : channelsOk t := by
  cases h with
  | none | writeLink | openBank | switchWaits | cancel | linkMode | writeRoute | switchActs => exact hs
  | writeBank m bank i v hb hp =>
    exact channelsOk_of_frame (afterBankWrite_frame _ m bank) (by decide) (by decide) (by decide) hs
  | writeMap i v hm => exact channelsOk_of_frame (writeMap_frame s _ _ i) (by decide) (by decide) (by decide) hs
  | writeSignal i j v h =>
    have hcond : t.cond = s.cond := (writeSlotItem_frame h).2 .cond (by decide)
    exact channelsOk_of_kept (chanKept_of_overload (writeSlotItem_chan h) (writeSlotItem_overloadOk h)
      ((writeSlotItem_frame h).2 .stopInput (by decide))) (by rw [hcond]) (by rw [hcond]; exact id) hs
  | commitMap hm hv => exact channelsOk_of_frame (commitMap_frame s) (by decide) (by decide) (by decide) hs
  | ack c hl hh ha =>
    have hcond : ((s.withFaults (s.faults.remove c)).clearLatch c).cond = s.cond :=
      (clearLatch_frame (s.withFaults (s.faults.remove c)) c).2 .cond (by decide)
    exact channelsOk_of_kept (clearLatch_chanKept (s.withFaults (s.faults.remove c)) c) (by rw [hcond]; rfl)
      (by rw [hcond]; exact id) hs
  | channelMode c x => exact changeMode_channelsOk c x hs
  | restart hl => exact restart_channelsOk hs

theorem fullReset_channelsOk (rest : List Instr) (straps : BitVec 4) (stop : StopLevel) :
    channelsOk (State.fullReset rest straps stop).reportStopLine := by
  have hreset : channelsOk (State.fullReset rest straps stop) :=
    ⟨fun c => by cases c <;> simp [State.fullReset, Conditioner.reset, ChannelControl.reset, PerChannel.const, PerChannel.get],
      const_rest_followsOk, fun _ => rfl, fun _ => rfl, rfl⟩
  unfold State.reportStopLine
  split
  · exact reportTrip_channelsOk _ hreset
  · exact hreset

theorem step_channelsOk {s t : State} (h : step s = .next t) (hs : channelsOk s) : channelsOk t :=
  step_keeps fullReset_channelsOk (fun _ data _ => command_channelsOk data _ _) effect_channelsOk event_channelsOk h hs

end Sys2Proof.Machine
end

section
/-! What the stages form for a valid bank and map: the limits of the three setpoints (R77, R81, R84, R86, R92, R93), and with
them that the previous setpoints and hold targets stay within their ranges (Table 5-2). -/

namespace Sys2Proof.Machine

/-! ## Items of a valid bank -/

section Bank
variable {b : Bank} (hb : bankFault b = none)
include hb

theorem riseStep_of_valid (c : Channel) : 1 ≤ riseStep b c ∧ riseStep b c ≤ 2000 := by
  cases c with
  | rotary => exact (within_iff _ _ _).1 (checkBankItem_of_valid hb (i := 32) (by decide))
  | crowd => exact (within_iff _ _ _).1 (checkBankItem_of_valid hb (i := 34) (by decide))
  | winch => exact (within_iff _ _ _).1 (checkBankItem_of_valid hb (i := 36) (by decide))

theorem fallStep_of_valid (c : Channel) : 1 ≤ fallStep b c ∧ fallStep b c ≤ 2000 := by
  cases c with
  | rotary => exact (within_iff _ _ _).1 (checkBankItem_of_valid hb (i := 33) (by decide))
  | crowd => exact (within_iff _ _ _).1 (checkBankItem_of_valid hb (i := 35) (by decide))
  | winch => exact (within_iff _ _ _).1 (checkBankItem_of_valid hb (i := 37) (by decide))

theorem winchLimit_of_valid : 0 ≤ winchLimit b ∧ winchLimit b ≤ 2000 :=
  (within_iff _ _ _).1 (checkBankItem_of_valid hb (i := 38) (by decide))

theorem pullLimit_of_valid : 0 ≤ pullLimit b ∧ pullLimit b ≤ 2000 :=
  (within_iff _ _ _).1 (checkBankItem_of_valid hb (i := 39) (by decide))

theorem settleSpeed_of_valid : 0 ≤ settleSpeed b ∧ settleSpeed b ≤ 600 :=
  (within_iff _ _ _).1 (checkBankItem_of_valid hb (i := 41) (by decide))

theorem jamSpeed_of_valid : 0 ≤ jamSpeed b ∧ jamSpeed b ≤ 600 :=
  (within_iff _ _ _).1 (checkBankItem_of_valid hb (i := 42) (by decide))

end Bank

/-! ## Limits and ramps -/

theorem limitMagnitude_between (x : Int) {limit : Int} (h : 0 ≤ limit) :
    min 0 x ≤ limitMagnitude x limit ∧ limitMagnitude x limit ≤ max 0 x := by
  unfold limitMagnitude magnitude
  rcases lt_trichotomy x 0 with hx | rfl | hx
  · rw [Int.sign_eq_neg_one_of_neg hx]
    omega
  · simp
  · rw [Int.sign_eq_one_of_pos hx]
    omega

theorem cutMagnitude_between (x : Int) {limit : Int} (h : 0 ≤ limit) :
    min 0 x ≤ cutMagnitude x limit ∧ cutMagnitude x limit ≤ max 0 x ∧ magnitude (cutMagnitude x limit) ≤ limit := by
  unfold cutMagnitude magnitude
  split
  · rcases lt_trichotomy x 0 with hx | rfl | hx
    · rw [Int.sign_eq_neg_one_of_neg hx]
      omega
    · omega
    · rw [Int.sign_eq_one_of_pos hx]
      omega
  · omega

/-- A ramp between two values of a range stays in it (R83). -/
theorem ramp_inRange {lo hi p g rise fall : Int} (hrise : 1 ≤ rise) (hfall : 1 ≤ fall) (hp : lo ≤ p ∧ p ≤ hi)
    (hg : lo ≤ g ∧ g ≤ hi) : lo ≤ ramp p g rise fall ∧ ramp p g rise fall ≤ hi := by
  obtain ⟨hmin, hmax, -⟩ := ramp_bounds (p := p) (g := g) (rise := rise) (fall := fall) (by omega) (by omega)
  omega

theorem pushCeiling_range {fe : Int} (h : 0 ≤ fe) (gate latch : Bool) :
    0 ≤ pushCeiling fe gate latch ∧ pushCeiling fe gate latch ≤ fe := by
  unfold pushCeiling
  split <;> omega

/-! ## The three setpoints -/

section Stages
variable {x : StageInput} (hb : bankFault x.bank = none)
include hb

/-- The speed ceiling Nc lies within the envelope limit and the cap (R77). -/
theorem speedCeiling_range (ha : 0 ≤ x.a) :
    0 ≤ speedCeiling (envelopeLimit x.bank x.a) (speedCap x.bank x.bite) ∧
    speedCeiling (envelopeLimit x.bank x.a) (speedCap x.bank x.bite) ≤ envelopeLimit x.bank x.a ∧
    (x.bite = .settle → speedCeiling (envelopeLimit x.bank x.a) (speedCap x.bank x.bite) ≤ settleSpeed x.bank) ∧
    (x.bite = .jammed → speedCeiling (envelopeLimit x.bank x.a) (speedCap x.bank x.bite) ≤ jamSpeed x.bank) := by
  have henv := envelopeLimit_range hb ha
  have hsettle := settleSpeed_of_valid hb
  have hjam := jamSpeed_of_valid hb
  cases x.bite with
  | settle => simp [speedCap, speedCeiling, henv.1, hsettle.1]
  | jammed => simp [speedCap, speedCeiling, henv.1, hjam.1]
  | idle | engage | cut | regrip => simp [speedCap, speedCeiling, henv.1]

theorem conditionRotary_range (ha : 0 ≤ x.a) (hr : -600 ≤ x.request.rotary ∧ x.request.rotary ≤ 600)
    (hp : -600 ≤ x.prev.rotary ∧ x.prev.rotary ≤ 600) :
    -600 ≤ (conditionRotary x).setpoint ∧ (conditionRotary x).setpoint ≤ 600 := by
  have hnc := (speedCeiling_range hb ha).1
  have hbetween := limitMagnitude_between x.request.rotary hnc
  have htarget : -600 ≤ (conditionRotary x).target ∧ (conditionRotary x).target ≤ 600 := by
    simp only [conditionRotary]
    omega
  have hramp := ramp_inRange (riseStep_of_valid hb .rotary).1 (fallStep_of_valid hb .rotary).1 hp htarget
  have hcut := cutMagnitude_between (ramp x.prev.rotary (conditionRotary x).target (riseStep x.bank .rotary)
    (fallStep x.bank .rotary)) hnc
  simp only [conditionRotary] at hramp hcut ⊢
  omega

theorem conditionRotary_limit (ha : 0 ≤ x.a) : magnitude (conditionRotary x).setpoint ≤
    speedCeiling (envelopeLimit x.bank x.a) (speedCap x.bank x.bite) :=
  (cutMagnitude_between _ (speedCeiling_range hb ha).1).2.2

/-- The effective push limit of a valid bank (R80). -/
theorem effectivePush_of_valid (hfk : 0 ≤ x.fk) :
    0 ≤ effectivePush x.fk (derateFactor x.bank x.a) ∧ effectivePush x.fk (derateFactor x.bank x.a) ≤ x.fk := by
  have hd := derateFactor_range hb x.a
  have hmin := derateMin_of_valid hb
  exact effectivePush_range hfk (by omega) hd.2

theorem conditionCrowd_range (latch : Bool) (hfk : 0 ≤ x.fk ∧ x.fk ≤ 2000)
    (hf : -2000 ≤ x.request.crowd ∧ x.request.crowd ≤ 2000) (hp : -2000 ≤ x.prev.crowd ∧ x.prev.crowd ≤ 2000) :
    -2000 ≤ (conditionCrowd x latch).setpoint ∧ (conditionCrowd x latch).setpoint ≤ 2000 := by
  have hfe := effectivePush_of_valid hb hfk.1
  have hfc := pushCeiling_range hfe.1 (gateClosed x.bite) latch
  have hpull := pullLimit_of_valid hb
  have htarget : -2000 ≤ (conditionCrowd x latch).target ∧ (conditionCrowd x latch).target ≤ 2000 := by
    simp only [conditionCrowd, crowdTarget]
    split <;> omega
  have hramp := ramp_inRange (riseStep_of_valid hb .crowd).1 (fallStep_of_valid hb .crowd).1 hp htarget
  simp only [conditionCrowd] at hramp ⊢
  omega

theorem conditionCrowd_limit (latch : Bool) (hfk : 0 ≤ x.fk) :
    (conditionCrowd x latch).setpoint ≤ effectivePush x.fk (derateFactor x.bank x.a) ∧
    (gateClosed x.bite = true ∨ latch = true → (conditionCrowd x latch).setpoint ≤ 0) := by
  have hfe := effectivePush_of_valid hb hfk
  have hfc := pushCeiling_range hfe.1 (gateClosed x.bite) latch
  refine ⟨(min_le_right _ _).trans hfc.2, fun h => (min_le_right _ _).trans ?_⟩
  rw [pushCeiling, if_pos (by simpa using h)]

theorem conditionWinch_range (push : Int) (hp : -2000 ≤ x.prev.winch ∧ x.prev.winch ≤ 2000) :
    -2000 ≤ (conditionWinch x push).setpoint ∧ (conditionWinch x push).setpoint ≤ 2000 := by
  have hlimit := winchLimit_of_valid hb
  have hclamp := clamp_bounds (lo := -winchLimit x.bank) (hi := winchLimit x.bank) (by omega) x.request.winch
  have htarget : -2000 ≤ (conditionWinch x push).target ∧ (conditionWinch x push).target ≤ 2000 := by
    simp only [conditionWinch]
    split <;> omega
  have hramp := ramp_inRange (riseStep_of_valid hb .winch).1 (fallStep_of_valid hb .winch).1 hp htarget
  have hcut := cutMagnitude_between (ramp x.prev.winch (conditionWinch x push).target (riseStep x.bank .winch)
    (fallStep x.bank .winch)) hlimit.1
  simp only [conditionWinch] at hramp hcut ⊢
  omega

theorem conditionWinch_limit (push : Int) : magnitude (conditionWinch x push).setpoint ≤ winchLimit x.bank :=
  (cutMagnitude_between _ (winchLimit_of_valid hb).1).2.2

end Stages

/-! ## The readings of the stages after the action hand-off -/

/-- The active bank is valid whenever active-valid is true, also after a switch that was pending. -/
theorem valid_of_switchedAtMost {s t : State} (h : switchedAtMost s t) (hs : banksOk s)
    (hv : t.banks.activeValid = true) : bankFault t.activeBank = none := by
  obtain ⟨hvalid, hpending, -⟩ := hs
  obtain ⟨p, hp, hswitched⟩ := h
  unfold State.activeBank
  cases p with
  | true =>
    have hother := (hpending (hp rfl)).2.1
    rw [hswitched.1]
    exact hother
  | false =>
    rw [hswitched.1] at hv ⊢
    exact hvalid hv

theorem handedOff_valid {s : State} (data : List Byte) (hs : banksOk s)
    (hv : (s.handedOff data).banks.activeValid = true) : bankFault (s.handedOff data).activeBank = none :=
  valid_of_switchedAtMost (handedOff_switchedAtMost s data) hs hv

theorem handedOff_trackingOk {s : State} (data : List Byte) (hs : trackingOk s) : trackingOk (s.handedOff data) :=
  trackingOk_of_frame (handedOff_frame s data) (by decide) (by decide) hs

/-- FK of a valid bank and map (R65). -/
theorem pushLimit_range {u : State} (hb : bankFault u.activeBank = none) (hu : trackingOk u) :
    0 ≤ u.pushLimit ∧ u.pushLimit ≤ 2000 := by
  by_cases h : u.tracker.mode = .tracking
  · exact pushLimit_range_of_tracking hu h
  · rw [pushLimit_of_not_tracking h]
    exact safePush_of_valid hb

/-! ## Ranges of Table 5-2 -/

/-- The setpoints of the three channels lie in their ranges. -/
def setpointsInRange (p : PerChannel Int) : Prop := ∀ c, inRequestRange c (p.get c)

theorem zero_inRange (c : Channel) : inRequestRange c 0 := by
  cases c <;> simp [inRequestRange]

theorem zeroSetpoints_inRange : setpointsInRange zeroSetpoints := fun c => by
  rw [show zeroSetpoints.get c = 0 from const_get 0 c]
  exact zero_inRange c

theorem commandRequests_inRange (data : List Byte) : setpointsInRange (commandRequests data) := fun c => by
  cases c <;> exact clamp_bounds (by decide) _

theorem setpointsOk_iff (s : State) : setpointsOk s ↔
    setpointsInRange s.cond.prev ∧ ∀ c h, s.cond.hold.get c = some h → inRequestRange c h :=
  ⟨fun hs => ⟨fun c => (hs c).1, fun c => (hs c).2⟩, fun ⟨hprev, hhold⟩ c => ⟨hprev c, hhold c⟩⟩

theorem tabulate_get {α : Type} (f : Channel → α) (c : Channel) : (PerChannel.tabulate f).get c = f c := by
  cases c <;> rfl

theorem channelRequest_inRange {u : State} {r : PerChannel Int} (hr : setpointsInRange r)
    (hhold : ∀ c h, u.cond.hold.get c = some h → inRequestRange c h) (c : Channel) :
    inRequestRange c (u.channelRequest r c) := by
  unfold State.channelRequest
  split
  · exact hhold c _ ‹_›
  · exact hr c

/-- With the bank and the map in order, the sent setpoints lie in their ranges (R92, R93). -/
theorem stageOutput_inRange {u : State} {r : PerChannel Int}
    (hb : u.banks.activeValid = true → bankFault u.activeBank = none) (ht : trackingOk u) (hu : setpointsOk u)
    (hr : setpointsInRange r) : setpointsInRange (u.stageOutput r).sent := by
  unfold State.stageOutput
  split
  · rename_i hv
    have hbank := hb hv
    obtain ⟨hprev, hhold⟩ := (setpointsOk_iff u).1 hu
    have hrequest : ∀ c, inRequestRange c ((u.stageInput r).request.get c) := fun c => by
      rw [show (u.stageInput r).request.get c = u.channelRequest r c from tabulate_get _ c]
      exact channelRequest_inRange hr hhold c
    have hfk := pushLimit_range hbank ht
    intro c
    cases c with
    | rotary =>
      change inRequestRange .rotary ((conditionRotary _).sent _)
      unfold ChannelResult.sent
      split
      · exact zero_inRange _
      · exact conditionRotary_range (x := u.stageInput r) hbank (Int.natCast_nonneg _) (hrequest .rotary) (hprev .rotary)
    | crowd =>
      change inRequestRange .crowd ((conditionCrowd _ _).sent _)
      unfold ChannelResult.sent
      split
      · exact zero_inRange _
      · exact conditionCrowd_range (x := u.stageInput r) hbank _ hfk (hrequest .crowd) (hprev .crowd)
    | winch =>
      change inRequestRange .winch ((conditionWinch _ _).sent _)
      unfold ChannelResult.sent
      split
      · exact zero_inRange _
      · exact conditionWinch_range (x := u.stageInput r) hbank _ (hprev .winch)
  · exact zeroSetpoints_inRange

theorem setpointsOk_of_cond {s t : State} (h : t.cond = s.cond ∨ t.cond = { s.cond with prev := zeroSetpoints })
    (hs : setpointsOk s) : setpointsOk t := by
  obtain ⟨hprev, hhold⟩ := (setpointsOk_iff s).1 hs
  rw [setpointsOk_iff]
  rcases h with h | h <;> rw [h]
  · exact ⟨hprev, hhold⟩
  · exact ⟨zeroSetpoints_inRange, hhold⟩

theorem command_setpointsOk {s : State} (data : List Byte) (q : Byte) (hb : banksOk s) (ht : trackingOk s)
    (hs : setpointsOk s) : setpointsOk ((s.handedOff data).conditionCommand (commandRequests data) q) := by
  obtain ⟨hprev, hhold⟩ := (setpointsOk_iff s).1 hs
  have hu : setpointsOk (s.handedOff data) := by
    rw [setpointsOk_iff, handedOff_cond]
    exact ⟨hprev, hhold⟩
  rw [setpointsOk_iff, command_cond]
  exact ⟨stageOutput_inRange (handedOff_valid data hb) (handedOff_trackingOk data ht) hu (commandRequests_inRange data),
    hhold⟩

theorem changeMode_setpointsOk {s : State} (c : Channel) (x : ChannelMode) (hs : setpointsOk s) :
    setpointsOk (s.changeMode c x) := by
  obtain ⟨hprev, hhold⟩ := (setpointsOk_iff s).1 hs
  refine (setpointsOk_iff _).2 ⟨hprev, fun d h hd => ?_⟩
  change (s.cond.hold.set c _).get d = some h at hd
  rw [get_set] at hd
  split at hd
  · rename_i hdc
    subst hdc
    unfold holdAfter at hd
    split at hd
    · exact hhold d h hd
    · cases hd
      exact hprev d
    · cases hd
  · exact hhold d h hd

theorem reportCauses_cond (s : State) : s.reportStopLine.reportDriveLink.cond = s.cond ∨
    s.reportStopLine.reportDriveLink.cond = { s.cond with prev := zeroSetpoints } := by
  have hstop : s.reportStopLine.cond = s.cond ∨ s.reportStopLine.cond = { s.cond with prev := zeroSetpoints } := by
    unfold State.reportStopLine
    split
    · exact reportTrip_cond _ _
    · exact .inl rfl
  unfold State.reportDriveLink
  split
  · rcases reportTrip_cond s.reportStopLine .driveLinkDown with h | h <;> rw [h]
    · exact hstop
    · rcases hstop with hs | hs <;> rw [hs] <;> exact .inr rfl
  · exact hstop

theorem effect_setpointsOk {s t : State} (h : Effect s t) (hs : setpointsOk s) : setpointsOk t := by
  cases h with
  | none | writeLink | openBank | switchWaits | cancel | writeRoute | switchActs => exact hs
  | writeBank m bank i v hb hp => exact setpointsOk_of_cond (.inl ((afterBankWrite_frame _ m bank).2 .cond (by decide))) hs
  | writeMap i v hm => exact setpointsOk_of_cond (.inl ((writeMap_frame s _ _ i).2 .cond (by decide))) hs
  | writeSignal i j v h => exact setpointsOk_of_cond (.inl ((writeSlotItem_frame h).2 .cond (by decide))) hs
  | commitMap hm hv => exact setpointsOk_of_cond (.inl ((commitMap_frame s).2 .cond (by decide))) hs
  | ack c hl hh ha =>
    exact setpointsOk_of_cond (s := s) (.inl ((clearLatch_frame (s.withFaults (s.faults.remove c)) c).2 .cond (by decide))) hs
  | channelMode c x => exact changeMode_setpointsOk c x hs
  | linkMode x hi => exact setpointsOk_of_cond (s := s) (.inr rfl) hs
  | restart hl =>
    refine setpointsOk_of_cond (reportCauses_cond s.restartBlocks) ?_
    rw [setpointsOk_iff, restartBlocks_cond]
    exact ⟨zeroSetpoints_inRange, ((setpointsOk_iff s).1 hs).2⟩

theorem event_setpointsOk {s t : State} (h : Event s t) (hs : setpointsOk s) : setpointsOk t :=
  setpointsOk_of_cond (event_cond h) hs

theorem reset_setpointsOk (rest : List Instr) (straps : BitVec 4) (stop : StopLevel) :
    setpointsOk (State.fullReset rest straps stop) :=
  (setpointsOk_iff _).2 ⟨zeroSetpoints_inRange, fun c h hc => by cases c <;> cases hc⟩

theorem fullReset_setpointsOk (rest : List Instr) (straps : BitVec 4) (stop : StopLevel) :
    setpointsOk (State.fullReset rest straps stop).reportStopLine := by
  unfold State.reportStopLine
  split
  · exact setpointsOk_of_cond (reportTrip_cond _ _) (reset_setpointsOk rest straps stop)
  · exact reset_setpointsOk rest straps stop

/-- The command alone reads the bank and the map; every event and effect keeps the ranges by itself. -/
theorem step_setpointsOk {s t : State} (h : step s = .next t) (hb : banksOk s) (ht : trackingOk s)
    (hs : setpointsOk s) : setpointsOk t := by
  rcases step_cases h with ⟨straps, stop, rest, -, rfl⟩ | ⟨rest, hmeaning⟩
  · exact fullReset_setpointsOk rest straps stop
  · cases hmeaning with
    | command data hd => exact command_setpointsOk (s := s.withPending rest) data _ hb ht hs
    | request heff m code tag r hr => exact (effect_setpointsOk (s := s.withPending rest) heff hs :)
    | events hchain => exact hchain.keeps event_setpointsOk hs

/-- Settles O59: events and effects keep the records' form; the ranges are those the stages keep. -/
theorem conditionerKept : Obligations.ConditionerKept := fun _ _ h => ⟨step_channelsOk h, step_setpointsOk h⟩

/-! ## The setpoints of a taken command -/

theorem exec_driveCommand {s : State} {data : List Byte} (h : 8 ≤ data.length) : exec (.driveCommand data) s =
    .next ((s.handedOff data).conditionCommand (commandRequests data) (commandSeq data)) := by
  change Host.Outcome.next (s.takeCommand data) = _
  rw [State.takeCommand, if_neg (not_lt.2 h)]
  rfl

theorem sent_magnitude (r : ChannelResult) (forced : Bool) {limit : Int} (h0 : 0 ≤ limit)
    (h : magnitude r.setpoint ≤ limit) : magnitude (r.sent forced) ≤ limit := by
  unfold ChannelResult.sent
  split
  · exact h0
  · exact h

theorem sent_le (r : ChannelResult) (forced : Bool) {limit : Int} (h0 : 0 ≤ limit) (h : r.setpoint ≤ limit) :
    r.sent forced ≤ limit := by
  unfold ChannelResult.sent
  split
  · exact h0
  · exact h

/-- What the six stages send with a valid bank and map (R84, R86, R92, R93). -/
theorem runStages_within_limits {x : StageInput} (hb : bankFault x.bank = none) (ha : 0 ≤ x.a) (hfk : 0 ≤ x.fk) :
    (runStages x).sent.crowd ≤ effectivePush x.fk (derateFactor x.bank x.a) ∧
    (gateClosed x.bite = true ∨ (runStages x).latch = true → (runStages x).sent.crowd ≤ 0) ∧
    magnitude (runStages x).sent.rotary ≤ envelopeLimit x.bank x.a ∧
    (x.bite = .settle → magnitude (runStages x).sent.rotary ≤ settleSpeed x.bank) ∧
    (x.bite = .jammed → magnitude (runStages x).sent.rotary ≤ jamSpeed x.bank) ∧
    magnitude (runStages x).sent.winch ≤ winchLimit x.bank := by
  obtain ⟨hpush, hgate⟩ := conditionCrowd_limit hb (stallStep x.bank x.a x.speed x.latch x.count).1 hfk
  obtain ⟨hnc, hnlim, hsettle, hjam⟩ := speedCeiling_range hb ha
  have hrotary : magnitude (runStages x).sent.rotary ≤ speedCeiling (envelopeLimit x.bank x.a) (speedCap x.bank x.bite) :=
    sent_magnitude _ _ hnc (conditionRotary_limit hb ha)
  exact ⟨sent_le _ _ (effectivePush_of_valid hb hfk).1 hpush, fun h => sent_le _ _ le_rfl (hgate h),
    hrotary.trans hnlim, fun h => hrotary.trans (hsettle h), fun h => hrotary.trans (hjam h),
    sent_magnitude _ _ (winchLimit_of_valid hb).1 (conditionWinch_limit hb _)⟩

theorem switchedAtMost_activeValid {s t : State} (h : switchedAtMost s t) (hv : s.banks.activeValid = true) :
    t.banks.activeValid = true := by
  obtain ⟨p, -, hswitched⟩ := h
  cases p with
  | true => rw [hswitched.1]
  | false =>
    rw [hswitched.1]
    exact hv

/-- Settles O20: the limits of the stages, on the readings after the action hand-off. -/
theorem conditionedSetpointsWithinLimits : Obligations.ConditionedSetpointsWithinLimits := by
  intro s data hd hbanks htracking hv u a
  have huv : u.banks.activeValid = true := switchedAtMost_activeValid (handedOff_switchedAtMost s data) hv
  have hbank := handedOff_valid data hbanks huv
  have hfk := pushLimit_range hbank (handedOff_trackingOk data htracking)
  refine ⟨_, exec_driveCommand hd, ?_⟩
  have hstages : u.stageOutput (commandRequests data) = runStages (u.stageInput (commandRequests data)) := if_pos huv
  rw [command_cond]
  rw [hstages]
  exact runStages_within_limits (x := u.stageInput (commandRequests data)) hbank (Int.natCast_nonneg _) hfk.1

end Sys2Proof.Machine
end

section
/-! The Bite Engine and the Profile Banks kept in order (R112 to R122, R134, R141, R151, R153): what each transition of the
engine needs and gives. -/

namespace Sys2Proof.Machine

/-! ## The parts of the invariant -/

/-- The parts of the engine stand in their states (R112, R120, R122). -/
def partsOk (b : BiteEngine) : Prop :=
  (b.jamCause.isSome = true ↔ b.state = .jammed) ∧ (b.ctx = none ↔ b.state = .idle) ∧
  (b.progressTimer.isSome = true ↔ b.state = .cut) ∧ (b.settleTimer.isSome = true ↔ b.state = .settle)

/-- The log, the counter and the context keep their form (R113, R115, R130). -/
def recordsOk (b : BiteEngine) : Prop :=
  b.log.length ≤ 8 ∧ b.counter ≤ 65535 ∧ ∀ x, b.ctx = some x → contextOk b x

/-- The bite stands where the tracker allows it (R116, R118). -/
def placedOk (s : State) : Prop :=
  (cutting s.bite.state = true → s.tracker.mode = .tracking) ∧ (s.bite.state = .cut → s.crowdReady = true) ∧
  (s.bite.state = .engage → s.crowdReady = false)

/-- The engine and the banks are in order, wherever the bite stands. -/
def workOk (s : State) : Prop := partsOk s.bite ∧ recordsOk s.bite ∧ banksOk s

/-- The bite, its context, the banks, the pending switch and the reservation are in order. -/
def biteAndBanksOk (s : State) : Prop := workOk s ∧ placedOk s

theorem biteAndBanksOk_iff (s : State) : biteAndBanksOk s ↔ biteOk s ∧ banksOk s ∧ openBiteOk s := by
  constructor
  · rintro ⟨⟨⟨hjam, hctx, hprogress, hsettle⟩, ⟨hlog, hcounter, hcontext⟩, hbanks⟩, hcutting, hcut, hengage⟩
    exact ⟨⟨hjam, hctx, hprogress, hsettle, hcutting, hcut, hengage, hlog, hcounter⟩, hbanks, hcontext⟩
  · rintro ⟨⟨hjam, hctx, hprogress, hsettle, hcutting, hcut, hengage, hlog, hcounter⟩, hbanks, hcontext⟩
    exact ⟨⟨⟨hjam, hctx, hprogress, hsettle⟩, ⟨hlog, hcounter, hcontext⟩, hbanks⟩, hcutting, hcut, hengage⟩

theorem crowdReady_congr {s t : State} (hm : t.tracker.mode = s.tracker.mode) (hk : t.kelly = s.kelly)
    (hj : ∀ k, junctionInUse s.kelly.items k = true → t.tracker.junctions[k].state = s.tracker.junctions[k].state) :
    t.crowdReady = s.crowdReady := by
  unfold State.crowdReady
  rw [hm, hk]
  congr 1
  refine Bool.eq_iff_iff.2 ?_
  simp only [List.all_eq_true]
  refine forall₂_congr fun k hk => ?_
  rw [hj k ((mem_junctionsUsed _ k).1 hk)]

theorem crowdReady_of_same {s t : State} (h : t.tracker = s.tracker) (hk : t.kelly = s.kelly) :
    t.crowdReady = s.crowdReady := crowdReady_congr (by rw [h]) hk fun _ _ => by rw [h]

theorem tracking_of_crowdReady {s : State} (h : s.crowdReady = true) : s.tracker.mode = .tracking := by
  unfold State.crowdReady at h
  rw [Bool.and_eq_true, decide_eq_true_eq] at h
  exact h.1

theorem placedOk_of_idle {s : State} (h : s.bite.state = .idle) : placedOk s := by
  simp [placedOk, cutting, h]

/-- The same engine, banks and reservation. -/
theorem workOk_of_same {s t : State} (hb : t.bite = s.bite) (hk : t.banks = s.banks) (hr : t.reservation = s.reservation)
    (hs : workOk s) : workOk t := by
  unfold workOk banksOk State.activeBank at hs ⊢
  rw [hb, hk, hr]
  exact hs

theorem placedOk_of_same {s t : State} (hb : t.bite = s.bite) (hm : t.tracker.mode = s.tracker.mode)
    (hc : t.crowdReady = s.crowdReady) (hs : placedOk s) : placedOk t := by
  unfold placedOk at hs ⊢
  rw [hb, hm, hc]
  exact hs

theorem workOk_of_frame {l : List Block} {s t : State} (h : unchangedExcept l s t) (hb : Block.bite ∉ l)
    (hk : Block.banks ∉ l) (hr : Block.reservation ∉ l) (hs : workOk s) : workOk t :=
  workOk_of_same (h.2 .bite hb) (h.2 .banks hk) (h.2 .reservation hr) hs

theorem biteAndBanksOk_of_frame {l : List Block} {s t : State} (h : unchangedExcept l s t) (hb : Block.bite ∉ l)
    (hk : Block.banks ∉ l) (hr : Block.reservation ∉ l) (ht : Block.tracker ∉ l) (hm : Block.kelly ∉ l)
    (hs : biteAndBanksOk s) : biteAndBanksOk t := by
  have htracker : t.tracker = s.tracker := h.2 .tracker ht
  exact ⟨workOk_of_frame h hb hk hr hs.1, placedOk_of_same (h.2 .bite hb) (by rw [htracker])
    (crowdReady_of_same htracker (h.2 .kelly hm)) hs.2⟩

/-! ## Leaving a state -/

/-- The banks after the bite left a state: no switch pending, and a bank that was valid still is (R126, R141). -/
def bankState (s t : State) : Prop :=
  (t.banks.activeValid = true → bankFault t.activeBank = none) ∧ t.banks.pendingSwitch = false ∧
  (∀ r, t.reservation = some r → r.bank = otherBank t.banks.active) ∧
  (s.banks.activeValid = true → t.banks.activeValid = true)

theorem banksOk_of_bankState {s t : State} (h : bankState s t)
    (hv : t.bite.state ≠ .idle → s.banks.activeValid = true) : banksOk t := by
  obtain ⟨hvalid, hpending, hreserved, hkept⟩ := h
  exact ⟨hvalid, by simp [hpending], hreserved, fun hopen => hkept (hv hopen)⟩

/-- A bite's exit from its state leaves no switch pending: one that waits does so in CUT alone. -/
theorem bankState_of_left {s t : State} (hs : banksOk s)
    (h : switchedIf (decide (s.bite.state = .cut) && s.banks.pendingSwitch) s t) : bankState s t := by
  obtain ⟨hvalid, hpending, hreserved, -⟩ := hs
  unfold bankState State.activeBank
  cases hp : s.banks.pendingSwitch with
  | true =>
    obtain ⟨hcut, hother, -⟩ := hpending hp
    rw [hp, decide_eq_true hcut] at h
    obtain ⟨hbanks, hres⟩ := h
    rw [hbanks, hres]
    exact ⟨fun _ => hother, rfl, by simp, fun _ => rfl⟩
  | false =>
    rw [hp, Bool.and_false] at h
    obtain ⟨hbanks, hres⟩ := h
    rw [hbanks, hres]
    exact ⟨hvalid, hp, hreserved, id⟩

theorem biteLeave_bankState {s : State} (hs : banksOk s) (n : BiteState) : bankState s (s.biteLeave n) :=
  bankState_of_left hs (biteLeave_switched s n)

/-- The context of an open bite. -/
theorem ctx_of_open {b : BiteEngine} (hb : partsOk b) (ho : b.state ≠ .idle) : ∃ x, b.ctx = some x := by
  obtain ⟨-, hctx, -⟩ := hb
  exact Option.ne_none_iff_exists'.1 (mt hctx.1 ho)

theorem recordsOk_mapContext {b : BiteEngine} {f : BiteContext → BiteContext} {st : BiteState} {jam : Option JamCause}
    {pt : Option Nat} {depth : Int} {t : Option Nat}
    (hf : ∀ x, contextOk b x → contextOk b (f x)) (hb : recordsOk b) :
    recordsOk { b with state := st, jamCause := jam, progressTimer := pt, refDepth := depth, settleTimer := t
                       ctx := b.ctx.map f } := by
  obtain ⟨hlog, hcounter, hcontext⟩ := hb
  refine ⟨hlog, hcounter, fun y hy => ?_⟩
  obtain ⟨x, hx, rfl⟩ := Option.map_eq_some_iff.1 hy
  exact hf x (hcontext x hx)

theorem bump_le (n : Nat) {top : Nat} : bump n top ≤ top := min_le_right _ _

theorem jams_contextOk {b : BiteEngine} {x : BiteContext} (h : contextOk b x) :
    contextOk b { x with jams := bump x.jams 255 } := by
  obtain ⟨h1, h2, h3, h4, h5, h6, h7, h8, -, h10⟩ := h
  exact ⟨h1, h2, h3, h4, h5, h6, h7, h8, bump_le _, h10⟩

theorem regrips_contextOk {b : BiteEngine} {x : BiteContext} (h : contextOk b x) :
    contextOk b { x with regrips := bump x.regrips 255 } := by
  obtain ⟨h1, h2, h3, h4, h5, h6, h7, -, h9⟩ := h
  exact ⟨h1, h2, h3, h4, h5, h6, h7, bump_le _, h9⟩

theorem peakTorque_contextOk {b : BiteEngine} {x : BiteContext} (a : Int) (h : contextOk b x) :
    contextOk b { x with peakT := min (max x.peakT a) 2000 } := by
  obtain ⟨h1, h2, h3, h4, h5, h6, h7, h8, h9, h10, h11⟩ := h
  exact ⟨h1, h2, h3, h4, h5, h6, h7, h8, h9, by dsimp only; omega, h11⟩

theorem peakPush_contextOk {b : BiteEngine} {x : BiteContext} (a : Int) (h : contextOk b x) :
    contextOk b { x with peakPush := min (max x.peakPush a) 10000 } := by
  obtain ⟨h1, h2, h3, h4, h5, h6, h7, h8, h9, h10, h11⟩ := h
  exact ⟨h1, h2, h3, h4, h5, h6, h7, h8, h9, h10, by dsimp only; omega⟩

theorem raise_contextOk {b : BiteEngine} {x : BiteContext} (depth : Int) (h : contextOk b x) :
    contextOk b (x.raise depth) := by
  obtain ⟨h1, h2, h3, h4, h5, h6, h7, h8⟩ := h
  exact ⟨h1, h2, h3, h4.trans (le_max_left _ _), rfl, h6, h7, h8⟩

theorem appendBite_length {l : List BiteRecord} (r : BiteRecord) (h : l.length ≤ 8) : (appendBite l r).length ≤ 8 := by
  unfold appendBite Config.biteLogPlaces
  split
  · rw [List.length_append, List.length_drop, List.length_singleton]
    omega
  · rw [List.length_append, List.length_singleton]
    omega

/-! ## Ending a bite and entering a state -/

section Enter
variable {s : State} (hs : workOk s)
include hs

theorem biteEnd_ok (o : BiteOutcome) : biteAndBanksOk (s.biteEnd o) := by
  obtain ⟨hparts, ⟨hlog, hcounter, -⟩, hbanks⟩ := hs
  have hbite := biteEnd_bite s o
  have hidle : (s.biteEnd o).bite.state = .idle := by rw [hbite]
  refine ⟨⟨by rw [hbite]; simp [partsOk], ?_, banksOk_of_bankState (bankState_of_left hbanks (biteEnd_switched s o))
    fun ho => absurd hidle ho⟩, placedOk_of_idle hidle⟩
  rw [hbite]
  refine ⟨?_, hcounter, fun x hx => by cases hx⟩
  cases s.bite.ctx with
  | none => exact hlog
  | some x => exact appendBite_length _ hlog

variable (ho : s.bite.state ≠ .idle)
include ho

theorem activeValid_of_open : s.banks.activeValid = true := hs.2.2.2.2.2 ho

/-- Leaving for ENGAGE, the engine and the banks are in order. -/
theorem leaveForEngage_work : workOk (s.biteLeave .engage) := by
  have hvalid := activeValid_of_open hs ho
  obtain ⟨hparts, hrecords, hbanks⟩ := hs
  obtain ⟨x, hx⟩ := ctx_of_open hparts ho
  refine ⟨?_, ?_, banksOk_of_bankState (biteLeave_bankState hbanks .engage) fun _ => hvalid⟩
  · rw [biteLeave_bite]
    simp [partsOk, hx]
  · rw [biteLeave_bite]
    exact hrecords

theorem enterCut_ok (hr : s.crowdReady = true) : biteAndBanksOk s.enterCut := by
  have hvalid := activeValid_of_open hs ho
  obtain ⟨hparts, hrecords, hbanks⟩ := hs
  obtain ⟨x, hx⟩ := ctx_of_open hparts ho
  have hframe := enterCut_frame s
  have hready : s.enterCut.crowdReady = true := by
    rw [crowdReady_of_same (hframe.2 .tracker (by decide)) (hframe.2 .kelly (by decide)), hr]
  refine ⟨⟨?_, ?_, ?_⟩, fun _ => tracking_of_crowdReady hready, fun _ => hready, ?_⟩
  · simp [State.enterCut, partsOk, hx]
  · simp only [State.enterCut, State.withBite_bite, biteLeave_bite]
    exact hrecords
  · exact banksOk_of_bankState (t := s.enterCut) (biteLeave_bankState hbanks .cut) fun _ => hvalid
  · simp [State.enterCut]

theorem engageCheck_ok (hst : s.bite.state = .engage) (ht : s.tracker.mode = .tracking) :
    biteAndBanksOk s.engageCheck := by
  unfold State.engageCheck
  split
  · exact enterCut_ok hs ho ‹_›
  · rename_i hr
    exact ⟨hs, fun _ => ht, by simp [hst], fun _ => by simpa using hr⟩

theorem enterEngage_ok (ht : s.tracker.mode = .tracking) : biteAndBanksOk s.enterEngage := by
  have hst : (s.biteLeave .engage).bite.state = .engage := by rw [biteLeave_bite]
  have htracker : (s.biteLeave .engage).tracker = s.tracker := (biteLeave_frame s .engage).2 .tracker (by decide)
  exact engageCheck_ok (leaveForEngage_work hs ho) (by simp) hst (by rw [htracker, ht])

theorem enterJammed_ok (c : JamCause) : biteAndBanksOk (s.enterJammed c) := by
  have hvalid := activeValid_of_open hs ho
  obtain ⟨hparts, hrecords, hbanks⟩ := hs
  obtain ⟨x, hx⟩ := ctx_of_open hparts ho
  have hbite := enterJammed_bite s c
  refine ⟨⟨by rw [hbite]; simp [partsOk, hx], ?_, ?_⟩, by simp [placedOk, hbite, cutting]⟩
  · rw [hbite]
    exact recordsOk_mapContext (fun x => jams_contextOk) hrecords
  · exact banksOk_of_bankState (t := s.enterJammed c) (biteLeave_bankState hbanks .jammed) fun _ => hvalid

theorem enterRegrip_ok (ht : s.tracker.mode = .tracking) : biteAndBanksOk s.enterRegrip := by
  have hvalid := activeValid_of_open hs ho
  obtain ⟨hparts, hrecords, hbanks⟩ := hs
  obtain ⟨x, hx⟩ := ctx_of_open hparts ho
  have hbite := enterRegrip_bite s
  have htracker : s.enterRegrip.tracker = s.tracker := (enterRegrip_frame s).2 .tracker (by decide)
  refine ⟨⟨by rw [hbite]; simp [partsOk, hx], ?_, ?_⟩, fun _ => by rw [htracker, ht], by simp [hbite], by simp [hbite]⟩
  · rw [hbite]
    exact recordsOk_mapContext (fun x => regrips_contextOk) hrecords
  · exact banksOk_of_bankState (t := s.enterRegrip) (biteLeave_bankState hbanks .regrip) fun _ => hvalid

end Enter

/-- The bite ends as the engine leaves it, the parts of its state already taken away. -/
theorem biteEnd_left_ok {s u : State} {n : BiteState} (hs : workOk s) (hu : u = s.biteLeave n)
    (o : BiteOutcome) : biteAndBanksOk (u.biteEnd o) := by
  obtain ⟨hparts, ⟨hlog, hcounter, -⟩, hbanks⟩ := hs
  have hleft := biteLeave_bankState hbanks n
  have hubite := biteLeave_bite s n
  rw [← hu] at hleft hubite
  have hbite := biteEnd_bite u o
  have hidle : (u.biteEnd o).bite.state = .idle := by rw [hbite]
  obtain ⟨hvalid, hpending, hreserved, hkept⟩ := hleft
  have hsame := biteEnd_switched u o
  rw [hpending, Bool.and_false] at hsame
  have hbanks' : banksOk (u.biteEnd o) := by
    refine banksOk_of_bankState (s := s) ?_ fun ho => absurd hidle ho
    unfold bankState State.activeBank at *
    rw [hsame.1, hsame.2]
    exact ⟨hvalid, hpending, hreserved, hkept⟩
  refine ⟨⟨by rw [hbite]; simp [partsOk], ?_, hbanks'⟩, placedOk_of_idle hidle⟩
  rw [hbite]
  refine ⟨?_, by rw [hubite]; exact hcounter, fun x hx => by cases hx⟩
  have hulog : u.bite.log.length ≤ 8 := by rw [hubite]; exact hlog
  cases u.bite.ctx with
  | none => exact hulog
  | some x => exact appendBite_length _ hulog

theorem enterSettle_ok {s : State} (hs : workOk s) (ho : s.bite.state ≠ .idle) : biteAndBanksOk s.enterSettle := by
  unfold State.enterSettle
  dsimp only
  split
  · exact biteEnd_left_ok hs rfl .done
  · have hvalid := activeValid_of_open hs ho
    obtain ⟨hparts, hrecords, hbanks⟩ := hs
    obtain ⟨x, hx⟩ := ctx_of_open hparts ho
    refine ⟨⟨?_, ?_, ?_⟩, ?_⟩
    · simp [partsOk, hx]
    · rw [State.withBite_bite, biteLeave_bite]
      exact hrecords
    · exact banksOk_of_bankState (s := s) (biteLeave_bankState hbanks .settle) fun _ => hvalid
    · simp [placedOk, cutting]

end Sys2Proof.Machine
end

section
/-! The bite and the banks over every step (R112 to R125, R134 to R143, R151 to R154). -/

namespace Sys2Proof.Machine

/-! ## Slot events -/

/-- A tracker change puts a bite that is in order to where the tracker allows it (R116 to R118). -/
theorem biteTrackerChange_ok {s : State} (hs : workOk s) : biteAndBanksOk s.biteTrackerChange := by
  unfold State.biteTrackerChange
  split
  · rename_i htracking
    split
    · rename_i hst
      exact engageCheck_ok hs (by simp [hst]) hst htracking
    · rename_i hst
      split
      · rename_i hr
        exact ⟨hs, fun _ => htracking, fun _ => hr, by simp [hst]⟩
      · exact enterEngage_ok hs (by simp [hst]) htracking
    all_goals
      rename_i hst
      exact ⟨hs, fun _ => htracking, by simp [hst], by simp [hst]⟩
  · split
    · rename_i hst
      exact enterJammed_ok hs (by simp [hst]) _
    · rename_i hst
      exact enterJammed_ok hs (by simp [hst]) _
    · rename_i hst
      exact enterJammed_ok hs (by simp [hst]) _
    all_goals
      rename_i hst
      exact ⟨hs, by simp [placedOk, hst, cutting]⟩

theorem mapContext_ok {s : State} {f : BiteContext → BiteContext} (hf : ∀ x, contextOk s.bite x → contextOk s.bite (f x))
    (hs : biteAndBanksOk s) : biteAndBanksOk (s.mapContext f) := by
  obtain ⟨⟨⟨hjam, hctx, htimers⟩, hrecords, hbanks⟩, hplaced⟩ := hs
  refine ⟨⟨⟨hjam, ?_, htimers⟩, recordsOk_mapContext hf hrecords, hbanks⟩, hplaced⟩
  change s.bite.ctx.map f = none ↔ _
  rw [Option.map_eq_none_iff]
  exact hctx

theorem biteHeadTest_ok {s : State} (hs : biteAndBanksOk s) : biteAndBanksOk s.biteHeadTest := by
  obtain ⟨hwork, hplaced⟩ := id hs
  unfold State.biteHeadTest
  split
  · rename_i hst
    split
    · exact enterRegrip_ok hwork (by simp [hst]) (hplaced.1 (by simp [hst, cutting]))
    · exact hs
  · rename_i hst
    split
    · exact enterEngage_ok hwork (by simp [hst]) (hplaced.1 (by simp [hst, cutting]))
    · exact hs
  all_goals exact hs

/-- The context with HW raised, the timer as it was or armed afresh in CUT (R119, R120). -/
theorem raised_ok {s : State} {x : BiteContext} {timer : Option Nat} {depth : Int} (d : Int) (hs : biteAndBanksOk s)
    (hx : s.bite.ctx = some x) (ht : timer.isSome = true ↔ s.bite.state = .cut) :
    biteAndBanksOk (s.withBite { s.bite with ctx := some (x.raise d), progressTimer := timer, refDepth := depth }) := by
  obtain ⟨⟨⟨hjam, hctx, -, hsettle⟩, ⟨hlog, hcounter, hcontext⟩, hbanks⟩, hplaced⟩ := hs
  refine ⟨⟨⟨hjam, ?_, ht, hsettle⟩, ⟨hlog, hcounter, fun y hy => ?_⟩, hbanks⟩, hplaced⟩
  · refine iff_of_false (by simp) fun hidle => ?_
    rw [hctx.2 hidle] at hx
    cases hx
  · cases hy
    exact raise_contextOk d (hcontext x hx)

theorem biteDepth_ok {s : State} (hs : biteAndBanksOk s) : biteAndBanksOk s.biteDepth := by
  unfold State.biteDepth
  split
  · rename_i x hst hx
    obtain ⟨⟨⟨-, -, hprogress, -⟩, -, -⟩, -⟩ := id hs
    have hraised := raised_ok (timer := s.bite.progressTimer) (depth := s.bite.refDepth) (s.effective 6) hs hx hprogress
    dsimp only
    split
    · exact enterSettle_ok hraised.1 (by simp [hst])
    · split
      · exact raised_ok (s := s) (timer := some (progressTime s.activeBank).toNat) _ hs hx (by simp [hst])
      · exact hraised
  · exact hs

/-- The slot's own work after a tracker change taken where there is one (R117). -/
theorem biteSlotEvent_ok {s : State} (i : SlotId) {changed : Bool} (hs : workOk s) (h : changed = false → placedOk s) :
    biteAndBanksOk (s.biteSlotEvent i changed) := by
  have hstepped : biteAndBanksOk (if changed = true then s.biteTrackerChange else s) := by
    split
    · exact biteTrackerChange_ok hs
    · rename_i hc
      exact ⟨hs, h (by simpa using hc)⟩
  unfold State.biteSlotEvent
  dsimp only
  generalize (if changed = true then s.biteTrackerChange else s) = u at hstepped ⊢
  split
  · exact mapContext_ok (fun x => peakTorque_contextOk _) hstepped
  · split
    · exact mapContext_ok (fun x => peakPush_contextOk _) hstepped
    · split
      · exact biteHeadTest_ok hstepped
      · split
        · exact biteDepth_ok hstepped
        · exact hstepped

/-- Where no tracker change is reported, the tracker state and the crowd-ready output are as they were (R66). -/
theorem unchanged_tracker {m : MapItems} {before after : Tracker} (h : trackerChanged m before after = false) :
    after.mode = before.mode ∧
    ∀ k, junctionInUse m k = true → after.junctions[k].state = before.junctions[k].state := by
  unfold trackerChanged at h
  rw [Bool.or_eq_false_iff, decide_eq_false_iff_not, not_not] at h
  refine ⟨h.1.symm, fun k hk => ?_⟩
  have hjunction := List.any_eq_false.1 h.2 k ((mem_junctionsUsed m k).2 hk)
  rw [decide_eq_true_eq, not_not] at hjunction
  exact hjunction.symm

theorem slotEvent_ok {s : State} (i : SlotId) (hs : biteAndBanksOk s) : biteAndBanksOk (s.slotEvent i) := by
  have htracked := trackerSlotEvent_frame s i
  have hwork : workOk (s.trackerSlotEvent i) := workOk_of_frame htracked (by decide) (by decide) (by decide) hs.1
  have hbitten := biteSlotEvent_ok i (changed := trackerChanged s.kelly.items s.tracker (s.trackerSlotEvent i).tracker)
    hwork fun hc => by
      obtain ⟨hmode, hstates⟩ := unchanged_tracker hc
      exact placedOk_of_same (htracked.2 .bite (by decide)) hmode
        (crowdReady_congr hmode (htracked.2 .kelly (by decide)) hstates) hs.2
  unfold State.slotEvent
  dsimp only
  split
  · exact biteAndBanksOk_of_frame (overloadTest_frame _) (by decide) (by decide) (by decide) (by decide) (by decide)
      hbitten
  · exact hbitten

theorem deliverSlot_ok {s : State} (i : SlotId) (hs : biteAndBanksOk s) : biteAndBanksOk (s.deliverSlot i) :=
  slotEvent_ok i (biteAndBanksOk_of_frame (refreshDerived_frame s i) (by decide) (by decide) (by decide) (by decide)
    (by decide) hs)

theorem storeSlot_ok {s : State} (i : SlotId) (r : Slot) (hs : biteAndBanksOk s) : biteAndBanksOk (s.storeSlot i r) :=
  biteAndBanksOk_of_frame (storeSlot_frame s i r) (by decide) (by decide) (by decide) (by decide) (by decide) hs

theorem judgeSlot_ok {s : State} (i : SlotId) (r : Slot) (hs : biteAndBanksOk s) : biteAndBanksOk (s.judgeSlot i r) := by
  unfold State.judgeSlot
  dsimp only
  split
  · exact storeSlot_ok i r hs
  · exact deliverSlot_ok i (storeSlot_ok i r hs)

theorem writeSlotItem_ok {s t : State} {i : SlotId} {j : Nat} {v : Int} (h : s.writeSlotItem i j v = some t)
    (hs : biteAndBanksOk s) : biteAndBanksOk t := by
  rcases writeSlotItem_cases h with ⟨on, -, -, rfl⟩ | ⟨on, -, -, rfl⟩ | ⟨c, -, rfl⟩
  · exact judgeSlot_ok i _ hs
  · exact judgeSlot_ok i _ hs
  · unfold State.configureSlot
    dsimp only
    split
    · exact hs
    · exact deliverSlot_ok i (s := s.withSignal _) hs

/-! ## Actions -/

theorem biteLength_of_valid {b : Bank} (hb : bankFault b = none) : 100 ≤ biteLength b ∧ biteLength b ≤ 3000 :=
  (within_iff _ _ _).1 (checkBankItem_of_valid hb (i := 62) (by decide))

theorem nextBiteNumber_range (n : Nat) : 1 ≤ nextBiteNumber n ∧ nextBiteNumber n ≤ 65535 := by
  unfold nextBiteNumber
  split <;> omega

/-- The governor is READY with a valid bank active alone (R164). -/
theorem activeValid_of_ready {s : State} (h : s.governor = .ready) : s.banks.activeValid = true := by
  unfold State.governor at h
  split at h
  · cases h
  · split at h
    · cases h
    · split at h
      · rename_i hv
        rw [Bool.and_eq_true] at hv
        exact hv.1
      · cases h

theorem newContext_ok {s : State} (hb : bankFault s.activeBank = none) {b : BiteEngine}
    (hc : b.counter = nextBiteNumber s.bite.counter) : contextOk b s.newContext := by
  have hlength := biteLength_of_valid hb
  have hnumber := nextBiteNumber_range s.bite.counter
  refine ⟨hc.symm, hnumber.1, hnumber.2, le_rfl, ?_, hlength.1, hlength.2, by simp [State.newContext],
    by simp [State.newContext], Int.natCast_nonneg _, le_max_left _ _⟩
  simp only [State.newContext]
  omega

theorem biteStart_ok {s : State} (hs : biteAndBanksOk s) : biteAndBanksOk s.biteStart := by
  unfold State.biteStart
  split
  · rename_i hstart
    obtain ⟨hidle, hready, htracking⟩ := hstart
    obtain ⟨⟨⟨hjam, -, hprogress, hsettle⟩, ⟨hlog, -, -⟩, hbank, hpending, hreserved, -⟩, -⟩ := hs
    have hvalid := activeValid_of_ready hready
    have hnopending : s.banks.pendingSwitch = false :=
      Bool.eq_false_iff.2 fun hp => by simp [(hpending hp).1] at hidle
    refine engageCheck_ok ⟨?_, ⟨hlog, (nextBiteNumber_range _).2, fun x hx => ?_⟩,
      ⟨hbank, fun hp => ?_, hreserved, fun _ => hvalid⟩⟩ (by simp) rfl htracking
    · simp only [State.withBite_bite, partsOk]
      rw [hidle] at hjam hprogress hsettle
      simp_all
    · cases hx
      exact newContext_ok (hbank hvalid) rfl
    · exact absurd hp (Bool.eq_false_iff.1 hnopending)
  · exact hs

theorem biteAction_ok {s : State} (a : Action) (hs : biteAndBanksOk s) : biteAndBanksOk (s.biteAction a) := by
  cases a with
  | none => exact hs
  | start => exact biteStart_ok hs
  | abort =>
    simp only [State.biteAction, State.biteAbortAction]
    split
    · exact hs
    · exact biteEnd_ok hs.1 _
    · exact biteEnd_ok hs.1 _
    · exact biteEnd_ok hs.1 _
    · split
      · exact biteEnd_ok hs.1 _
      · exact hs
    · exact biteEnd_ok hs.1 _
  | resume =>
    simp only [State.biteAction, State.biteResume]
    split
    · rename_i h
      exact enterEngage_ok hs.1 (by simp [h.1]) h.2
    · exact hs

theorem handOff_ok {s : State} (n : Nat) (hs : biteAndBanksOk s) : biteAndBanksOk (s.handOff n) := by
  unfold State.handOff
  split
  · exact hs
  · rename_i a _
    split
    · exact (biteAction_ok a hs : biteAndBanksOk (s.biteAction a))
    · exact hs

theorem command_ok {s : State} (data : List Byte) (r : PerChannel Int) (q : Byte) (hs : biteAndBanksOk s) :
    biteAndBanksOk ((s.handedOff data).conditionCommand r q) :=
  biteAndBanksOk_of_frame (conditionCommand_frame _ r q) (by decide) (by decide) (by decide) (by decide) (by decide)
    (handOff_ok (s := s.acceptCommand data) (commandAction data) hs)

theorem biteOutsideAbort_ok {s : State} (hs : biteAndBanksOk s) : biteAndBanksOk s.biteOutsideAbort := by
  unfold State.biteOutsideAbort
  split
  · exact hs
  · exact biteEnd_ok hs.1 _

/-! ## Trips and expiries -/

theorem zeroFrame_ok {s : State} (hs : biteAndBanksOk s) : biteAndBanksOk s.zeroFrame :=
  biteAndBanksOk_of_frame (zeroFrame_frame s) (by decide) (by decide) (by decide) (by decide) (by decide) hs

theorem goNeutral_ok {s : State} (hs : biteAndBanksOk s) : biteAndBanksOk s.goNeutral := biteOutsideAbort_ok (zeroFrame_ok hs)

theorem reportTrip_ok {s : State} (c : Cause) (hs : biteAndBanksOk s) : biteAndBanksOk (s.reportTrip c) := by
  rcases reportTrip_cases s c with ⟨-, h⟩ | ⟨-, -, h⟩ | ⟨-, -, h⟩ <;> rw [h]
  · exact hs
  · exact goNeutral_ok (s := (s.record c).withFaults _) hs
  · exact goNeutral_ok (s := (s.record c).withFaults _) hs

theorem reportCauses_ok {s : State} (hs : biteAndBanksOk s) : biteAndBanksOk s.reportStopLine.reportDriveLink := by
  have hstop : biteAndBanksOk s.reportStopLine := by
    unfold State.reportStopLine
    split
    · exact reportTrip_ok _ hs
    · exact hs
  unfold State.reportDriveLink
  split
  · exact reportTrip_ok _ hstop
  · exact hstop

theorem countDown_ok {s : State} (hs : biteAndBanksOk s) : biteAndBanksOk s.countDown := by
  obtain ⟨⟨⟨hjam, hctx, hprogress, hsettle⟩, hrecords, hbanks⟩, hplaced⟩ := hs
  refine ⟨⟨⟨hjam, hctx, ?_, ?_⟩, hrecords, hbanks⟩, hplaced⟩
  · change (s.bite.progressTimer.map (· - 1)).isSome = true ↔ _
    rw [Option.isSome_map]
    exact hprogress
  · change (s.bite.settleTimer.map (· - 1)).isSome = true ↔ _
    rw [Option.isSome_map]
    exact hsettle

theorem noProgress_ok {s : State} (hs : biteAndBanksOk s) : biteAndBanksOk s.noProgress := by
  unfold State.noProgress
  split
  · rename_i hst
    exact (enterJammed_ok hs.1 (by simp [hst]) .biteJam : biteAndBanksOk (s.enterJammed .biteJam))
  all_goals exact hs

theorem settleOver_ok {s : State} (hs : biteAndBanksOk s) : biteAndBanksOk s.settleOver := by
  unfold State.settleOver
  split
  · exact biteEnd_ok hs.1 _
  all_goals exact hs

theorem event_biteAndBanksOk {s t : State} (h : Event s t) (hs : biteAndBanksOk s) : biteAndBanksOk t := by
  cases h with
  | wait | report | reply | status | stopReleased => exact hs
  | millisecond => exact countDown_ok hs
  | sample i v => exact deliverSlot_ok i (storeSlot_ok i _ hs)
  | forward port f hf =>
    exact biteAndBanksOk_of_frame (forward_frame s port f) (by cases port <;> decide) (by cases port <;> decide)
      (by cases port <;> decide) (by cases port <;> decide) (by cases port <;> decide) hs
  | complete port | recover port =>
    exact biteAndBanksOk_of_frame (withPort_frame s port _) (by cases port <;> decide) (by cases port <;> decide)
      (by cases port <;> decide) (by cases port <;> decide) (by cases port <;> decide) hs
  | fail port ho =>
    have hport := biteAndBanksOk_of_frame (withPort_frame s port (s.port port).fail) (by cases port <;> decide)
      (by cases port <;> decide) (by cases port <;> decide) (by cases port <;> decide) (by cases port <;> decide) hs
    cases port with
    | cab => exact hport
    | drive => exact reportTrip_ok _ hport
  | commandAbsent =>
    exact biteOutsideAbort_ok (s := ((s.withCommandTimer s.link.cmdTimeout).zeroFrame).record .cmdAbsent)
      (zeroFrame_ok (s := s.withCommandTimer s.link.cmdTimeout) hs)
  | slotAbsent i => exact judgeSlot_ok i _ hs
  | noProgress => exact noProgress_ok hs
  | settleOver => exact settleOver_ok hs
  | stopAsserted => exact reportTrip_ok (s := s.withStop .asserted) .stopLine hs

/-! ## Requests -/

theorem otherBank_of_ne {i j : BankId} (h : i ≠ j) : i = otherBank j := by
  cases i <;> cases j <;> simp_all [otherBank]

theorem withBank_fields (p : ProfileBanks) (i : BankId) (b : Bank) :
    (p.withBank i b).activeValid = p.activeValid ∧ (p.withBank i b).pendingSwitch = p.pendingSwitch := by
  cases i <;> exact ⟨rfl, rfl⟩

theorem afterBankWrite_reservation (s : State) (m : Manager) (bank : BankId) :
    (s.afterBankWrite m bank).reservation = s.reservation ∨ (s.afterBankWrite m bank).reservation = none := by
  unfold State.afterBankWrite
  split
  · split
    · exact .inr rfl
    · exact .inl rfl
  · exact .inl rfl

/-- A write to the inactive bank with no switch pending (R136, R152). -/
theorem writeBank_banksOk {s : State} {m : Manager} {bank : BankId} {i : Nat} {v : Word} (hb : bank ≠ s.banks.active)
    (hp : s.banks.pendingSwitch = false) (hs : banksOk s) :
    banksOk ((s.withBanks (s.banks.withBank bank ((s.banks.bank bank).setIfInBounds i v))).afterBankWrite m bank) := by
  obtain ⟨hvalid, -, hreserved, hopen⟩ := hs
  have hframe := afterBankWrite_frame (s.withBanks (s.banks.withBank bank ((s.banks.bank bank).setIfInBounds i v))) m bank
  have hres := afterBankWrite_reservation (s.withBanks (s.banks.withBank bank ((s.banks.bank bank).setIfInBounds i v)))
    m bank
  have hfields := withBank_fields s.banks bank ((s.banks.bank bank).setIfInBounds i v)
  unfold banksOk State.activeBank
  rw [hframe.2 .banks (by decide), hframe.2 .bite (by decide), State.withBanks_banks, hfields.1, hfields.2, withBank_active,
    withBank_bank_ne _ _ hb, hp]
  refine ⟨hvalid, by simp, fun r hr => ?_, hopen⟩
  rcases hres with hsame | hnone
  · exact hreserved r (hsame ▸ hr)
  · rw [hnone] at hr
    cases hr

/-- With no bite in ENGAGE, CUT or REGRIP the engine has no part in the tracker's mode. -/
theorem biteTrackerChange_unplaced {s : State} (h : cutting s.bite.state = false) : s.biteTrackerChange = s := by
  unfold State.biteTrackerChange
  cases hst : s.bite.state <;> simp_all [cutting]

theorem deliverTrackerChange_unplaced {s : State} (h : cutting s.bite.state = false) (x : TrackerMode) :
    s.deliverTrackerChange x = s := by
  unfold State.deliverTrackerChange
  split
  · rfl
  · exact biteTrackerChange_unplaced h

theorem placedOk_of_not_cutting {s : State} (h : cutting s.bite.state = false) : placedOk s := by
  cases hst : s.bite.state <;> simp_all [cutting, placedOk]

theorem deliverTrackerChange_ok {u : State} (hu : workOk u) (h : cutting u.bite.state = false) (x : TrackerMode) :
    biteAndBanksOk (u.deliverTrackerChange x) := by
  rw [deliverTrackerChange_unplaced h]
  exact ⟨hu, placedOk_of_not_cutting h⟩

theorem not_cutting_of_not_tracking {s : State} (hs : placedOk s) (h : s.tracker.mode ≠ .tracking) :
    cutting s.bite.state = false := Bool.eq_false_iff.2 fun hc => h (hs.1 hc)

theorem switchBanks_banksOk {s : State} (hv : bankFault (s.banks.bank (otherBank s.banks.active)) = none) :
    banksOk s.switchBanks :=
  ⟨fun _ => hv, (fun h => nomatch h), (fun r hr => by cases hr), fun _ => rfl⟩

theorem restartBanks_ok {s : State} (hs : biteAndBanksOk s) : biteAndBanksOk s.restartBanks := by
  obtain ⟨⟨hparts, hrecords, hvalid, -, -, hopen⟩, hplaced⟩ := hs
  exact ⟨⟨hparts, hrecords, hvalid, (fun h => nomatch h), (fun r hr => by cases hr), hopen⟩, hplaced⟩

theorem restart_ok {s : State} (hs : biteAndBanksOk s) : biteAndBanksOk s.restart := by
  have haborted := biteOutsideAbort_ok (restartBanks_ok hs)
  have hframe := restartBlocks_afterAbort s
  have hidle : s.restartBlocks.bite.state = .idle := by
    rw [hframe.2 .bite (by decide)]
    exact biteOutsideAbort_idle _
  exact reportCauses_ok ⟨workOk_of_frame hframe (by decide) (by decide) (by decide) haborted.1, placedOk_of_idle hidle⟩

theorem effect_biteAndBanksOk {s t : State} (h : Effect s t) (hs : biteAndBanksOk s) : biteAndBanksOk t := by
  obtain ⟨⟨hparts, hrecords, hbanks⟩, hplaced⟩ := id hs
  cases h with
  | none | writeLink | linkMode | writeRoute | channelMode => exact hs
  | writeBank m bank i v hb hp =>
    have hframe := unchangedExcept_comp (n := [.banks, .reservation]) (withBanks_frame s _) (afterBankWrite_frame
      (s.withBanks (s.banks.withBank bank ((s.banks.bank bank).setIfInBounds i v))) m bank) (by simp) (by simp)
    have htracker := hframe.2 .tracker (by decide)
    refine ⟨⟨?_, ?_, writeBank_banksOk hb hp hbanks⟩, placedOk_of_same (hframe.2 .bite (by decide)) ?_
      (crowdReady_of_same htracker (hframe.2 .kelly (by decide))) hplaced⟩
    · rw [hframe.2 .bite (by decide)]
      exact hparts
    · rw [hframe.2 .bite (by decide)]
      exact hrecords
    · rw [htracker]
  | writeMap i v hm =>
    have hnot := not_cutting_of_not_tracking hplaced hm
    refine biteAndBanksOk_of_frame (refreshMapped_frame _ i) (by decide) (by decide) (by decide) (by decide) (by decide) ?_
    refine deliverTrackerChange_ok ?_ ?_ _
    · exact hs.1
    · exact hnot
  | writeSignal i j v h => exact writeSlotItem_ok h hs
  | openBank r hp hb =>
    exact ⟨⟨hparts, hrecords, hbanks.1, by simp [hp], fun q hq => by cases hq; exact otherBank_of_ne hb, hbanks.2.2.2⟩, hplaced⟩
  | switchWaits hr hv hc => exact ⟨⟨hparts, hrecords, hbanks.1, fun _ => ⟨hc, hv, hr⟩, hbanks.2.2⟩, hplaced⟩
  | switchActs hp hv => exact ⟨⟨hparts, hrecords, switchBanks_banksOk hv⟩, hplaced⟩
  | cancel => exact ⟨⟨hparts, hrecords, hbanks.1, (fun h => nomatch h), hbanks.2.2⟩, hplaced⟩
  | commitMap hm hv =>
    have hnot := not_cutting_of_not_tracking hplaced hm
    refine deliverTrackerChange_ok ?_ ?_ _
    · exact hs.1
    · exact hnot
  | ack c hl hh ha =>
    exact biteAndBanksOk_of_frame (s := s.withFaults (s.faults.remove c)) (clearLatch_frame _ c) (by decide) (by decide)
      (by decide) (by decide) (by decide) hs
  | restart hl => exact restart_ok hs

theorem reset_biteAndBanksOk (rest : List Instr) (straps : BitVec 4) (stop : StopLevel) :
    biteAndBanksOk (State.fullReset rest straps stop) := by
  refine ⟨⟨?_, ⟨by simp [State.fullReset, BiteEngine.reset], by simp [State.fullReset, BiteEngine.reset],
    (fun x hx => by cases hx)⟩, (fun h => nomatch h), (fun h => nomatch h), (fun r hr => by cases hr), fun h => absurd rfl h⟩,
    placedOk_of_idle rfl⟩
  simp [State.fullReset, BiteEngine.reset, partsOk]

theorem fullReset_biteAndBanksOk (rest : List Instr) (straps : BitVec 4) (stop : StopLevel) :
    biteAndBanksOk (State.fullReset rest straps stop).reportStopLine := by
  unfold State.reportStopLine
  split
  · exact reportTrip_ok _ (reset_biteAndBanksOk rest straps stop)
  · exact reset_biteAndBanksOk rest straps stop

theorem step_biteAndBanksOk {s t : State} (h : step s = .next t) (hs : biteAndBanksOk s) : biteAndBanksOk t :=
  step_keeps fullReset_biteAndBanksOk (fun _ data _ => command_ok data _ _) effect_biteAndBanksOk event_biteAndBanksOk h hs

/-- Settles O58: every transition of the engine leaves it where the tracker allows it, and the banks with no switch
pending outside CUT. -/
theorem biteAndBanksKept : Obligations.BiteAndBanksKept := fun _ _ h hbite hbanks hcontext =>
  (biteAndBanksOk_iff _).1 (step_biteAndBanksOk h ((biteAndBanksOk_iff _).2 ⟨hbite, hbanks, hcontext⟩))

/-- Settles O60: the reset state is a full reset that found the STOP line released. -/
theorem resetMeetsInvariants : Obligations.ResetMeetsInvariants :=
  have hbite := (biteAndBanksOk_iff _).1 (fullReset_biteAndBanksOk [] 0 .released)
  ⟨fullReset_portsOk [] 0 .released, fullReset_neutralOk [] 0 .released, fullReset_routesOk [] 0 .released,
    fullReset_signalOk [] 0 .released, fullReset_trackingOk [] 0 .released, hbite.1, hbite.2.1, hbite.2.2,
    fullReset_channelsOk [] 0 .released, fullReset_setpointsOk [] 0 .released, fullReset_faultsOk [] 0 .released⟩

end Sys2Proof.Machine
end

section
/-! The statements on the step, the full reset, own identifiers and requests that arrive as frames (R2, R3, R146, R167). -/

namespace Sys2Proof.Machine

/-! ## The step -/

/-- Settles O1: the step's definition with a command waiting. -/
theorem stepTakesFrontCommand : Obligations.StepTakesFrontCommand := fun s c rest h => by
  unfold step
  rw [h]

theorem step_idle {s : State} (h : s.pending = []) : step s = .next s.tick := by
  unfold step
  rw [h]

theorem filter_timerIds (u : TimerId) : timerIds.filter (fun w => decide (w = u)) = [u] := by
  cases u with
  | slot i =>
    revert i
    decide
  | command | progress | settle | status => decide

theorem tick_of_none_due {s : State} (h : ∀ u, s.countDown.timerDue u = false) : s.tick = s.countDown := by
  have hnone : timerIds.filter s.countDown.timerDue = [] := List.filter_eq_nil_iff.2 fun u _ => by simp [h u]
  unfold State.tick State.dueTimers
  rw [hnone]
  rfl

theorem tick_of_one_due {s : State} {u : TimerId} (hu : s.countDown.timerDue u = true)
    (hw : ∀ w, w ≠ u → s.countDown.timerDue w = false) : s.tick = s.countDown.timerExpiry u := by
  have hone : timerIds.filter s.countDown.timerDue = [u] := by
    rw [← filter_timerIds u]
    refine List.filter_congr fun w _ => ?_
    by_cases hwu : w = u
    · rw [hwu, hu, decide_eq_true rfl]
    · rw [hw w hwu, decide_eq_false hwu]
  unfold State.tick State.dueTimers
  rw [hone]
  exact if_pos hu

theorem exec_expiryRow (s : State) (u : TimerId) : exec (expiryRow u) s = .next (s.timerExpiry u) := by
  cases u <;> rfl

/-- Settles O2: what the count-down leaves, and the timers due after it. -/
theorem idleStepIsOneMillisecond : Obligations.IdleStepIsOneMillisecond := by
  intro s hp
  refine ⟨countDown_frame s, rfl, rfl, rfl, rfl, rfl, fun i => ?_, rfl, fun hnone => ?_, fun u hu hw => ?_⟩
  · have hslot : s.countDown.signal.slot i = (s.signal.slot i).tick := slot_tick s.signal i
    rw [hslot, Slot.tick]
    cases (s.signal.slot i).timer <;> rfl
  · rw [step_idle hp, tick_of_none_due hnone]
  · rw [step_idle hp, tick_of_one_due hu hw, exec_expiryRow]

/-! ## Governor -/

/-- Settles O40: the four lines of R164. -/
theorem governorStateTable : Obligations.GovernorStateTable := by
  intro s running
  have hrunning : (s.banks.activeValid && decide (s.tracker.mode ≠ .unmapped)) = true ↔ running := by simp [running]
  refine ⟨fun hl => if_pos hl, fun hl ht => ?_, fun hl ht hr => ?_, fun hl ht hr => ?_⟩
  · simp [State.governor, hl, ht]
  · rw [State.governor, if_neg (by simp [hl]), if_neg (by simp [ht]), if_pos (hrunning.2 hr)]
  · rw [State.governor, if_neg (by simp [hl]), if_neg (by simp [ht]), if_neg (mt hrunning.1 hr)]

/-! ## The full reset -/

/-- A monitor without a valid bank is cleared by any frame (R104). -/
theorem followTest_invalid (b : Bank) (c : Channel) (x pos : Int) (f : Follow) :
    followTest false b c x pos f = (f.cleared, false) := rfl

theorem followChannel_invalid {s : State} (h : s.banks.activeValid = false) (c : Channel) (x : Int) :
    s.followChannel c x = s.withChan (s.chan.withFollow c (s.chan.follow.get c).cleared) := by
  unfold State.followChannel
  rw [h, followTest_invalid]
  rfl

/-- The asserted line trips the reset part: one record, a zero frame, and nothing else (R161, R167). -/
theorem fullReset_asserted (rest : List Instr) (straps : BitVec 4) :
    (State.fullReset rest straps .asserted).reportStopLine =
      (((State.fullReset rest straps .asserted).withFaults
        { queue := [(State.fullReset rest straps .asserted).makeRecord .stopLine], tripPending := true
          lockout := false }).queueDrive zeroSetpoints .zeroFrame 0) := by
  have htrip : (State.fullReset rest straps .asserted).reportStopLine =
      ((State.fullReset rest straps .asserted).withFaults
        { queue := [(State.fullReset rest straps .asserted).makeRecord .stopLine], tripPending := true
          lockout := false }).goNeutral := rfl
  rw [htrip]
  unfold State.goNeutral State.zeroFrame State.followFrame
  rw [followChannel_invalid rfl, followChannel_invalid rfl, followChannel_invalid rfl]
  rfl

theorem reset_slots (i : SlotId) : (SignalStore.reset.slot i).raw = 0 ∧ (SignalStore.reset.slot i).held = 0 ∧
    (SignalStore.reset.slot i).state = .awaiting ∧ (SignalStore.reset.slot i).lostAbsence = false ∧
    (SignalStore.reset.slot i).lostRange = false ∧ (SignalStore.reset.slot i).rangeCond = false ∧
    (SignalStore.reset.slot i).timer = .running 100 ∧ (SignalStore.reset.slot i).cfg.lossTime = 100 ∧
    inSlotUnit i (SignalStore.reset.slot i).cfg.rmin = plausibleLow i ∧
    inSlotUnit i (SignalStore.reset.slot i).cfg.rmax = plausibleHigh i ∧
    (SignalStore.reset.slot i).cfg.absEn = true ∧ (SignalStore.reset.slot i).cfg.rngEn = true ∧
    (SignalStore.reset.slot i).cfg.policy = .hold ∧ (SignalStore.reset.slot i).cfg.subst = 0 := by
  revert i
  decide

theorem reset_route (k : Fin 32) : (Vector.replicate 32 RouteEntry.reset)[k] = RouteEntry.reset := by simp

theorem get_replicate {n : Nat} (x : Word) (j : Fin n) : (Vector.replicate n x)[j] = x := by simp

/-- Settles O3: the reset state block by block, and the trip of an asserted line. -/
theorem fullResetValues : Obligations.FullResetValues := by
  constructor
  · intro s straps
    refine ⟨State.fullReset s.pending straps .released, rfl, rfl, rfl, rfl, rfl, rfl, rfl, rfl, rfl, rfl, rfl, rfl,
      fun k => ?_, reset_slots, rfl, rfl, get_replicate 0, rfl, rfl, rfl, rfl, rfl, get_resetRecords, rfl,
      fun c => ⟨const_get _ c, const_get _ c⟩, rfl, rfl, rfl, rfl, rfl, rfl, rfl, rfl, rfl, rfl, rfl,
      fun j => ⟨get_replicate 0 j, get_replicate 0 j⟩, rfl, rfl, rfl, rfl, rfl, rfl⟩
    rw [show (State.fullReset s.pending straps .released).routes[k] = RouteEntry.reset from reset_route k]
    exact ⟨rfl, rfl, rfl, fun p => by simp [RouteEntry.reset, Mapping.reset]⟩
  · intro s straps
    refine ⟨_, _, rfl, congrArg Host.Outcome.next (fullReset_asserted s.pending straps), ⟨rfl, fun b hb => ?_⟩, rfl, rfl, rfl,
      rfl, rfl⟩
    cases b <;> first | rfl | exact absurd (by decide) hb

/-! ## Own identifiers -/

theorem ownIdents_nodup (node : BitVec 4) : (([0x0C0, 0x0D0, 0x3C0, 0x3D0, 0x5E0, 0x5F0, 0x6E0, 0x6F0] : List Ident).map
    (fun base => base + node.setWidth 11)).Nodup :=
  List.Nodup.map (fun _ _ h => by simpa using h) (by decide)

theorem ownIdent_inj {a b : Ident} {node : BitVec 4} : ownIdent a node = ownIdent b node ↔ a = b := by simp [ownIdent]

theorem requestIdent_ne_command (node : BitVec 4) (m : Manager) : requestIdent node m ≠ driveCommandIdent node := by
  cases m <;> simp [requestIdent, driveCommandIdent, ownIdent_inj]

theorem managerOfIdent_requestIdent (node : BitVec 4) (m : Manager) :
    managerOfIdent node (requestIdent node m) = some m := by
  cases m <;> simp [managerOfIdent, requestIdent, ownIdent_inj]

/-- The identifiers of the own outputs are no input's (R3). -/
theorem output_not_input (node : BitVec 4) {base : Ident} (h : base ∈ ([0x0D0, 0x3C0, 0x3D0, 0x6E0, 0x6F0] : List Ident)) :
    ownIdent base node ≠ driveCommandIdent node ∧ managerOfIdent node (ownIdent base node) = none ∧
      isOutputIdent node (ownIdent base node) = true := by
  simp only [List.mem_cons, List.not_mem_nil, or_false] at h
  rcases h with rfl | rfl | rfl | rfl | rfl <;>
    simp [driveCommandIdent, managerOfIdent, requestIdent, isOutputIdent, kindIdent, ownIdent_inj]

theorem arrive_request (s : State) (m : Manager) (data : List Byte) :
    s.arrive .cab { ident := requestIdent s.node m, data := data } = s.takeRequestFrame m data := by
  unfold State.arrive
  rw [if_neg (requestIdent_ne_command s.node m), managerOfIdent_requestIdent]

theorem arrive_drive_request (s : State) (m : Manager) (data : List Byte) :
    s.arrive .drive { ident := requestIdent s.node m, data := data } = s.record .idConflict := by
  unfold State.arrive
  rw [if_neg (requestIdent_ne_command s.node m), managerOfIdent_requestIdent]

theorem arrive_output {s : State} {port : PortId} {f : Frame} (hcommand : f.ident ≠ driveCommandIdent s.node)
    (hmanager : managerOfIdent s.node f.ident = none) (houtput : isOutputIdent s.node f.ident = true) :
    s.arrive port f = s.record .idConflict := by
  unfold State.arrive
  rw [if_neg hcommand, hmanager]
  exact if_pos houtput

/-- Settles O5: each identifier against the tests of R3. -/
theorem ownIdentifiersAreTakenOrDropped : Obligations.OwnIdentifiersAreTakenOrDropped := by
  intro s
  refine ⟨ownIdents_nodup s.node, fun data => ?_, fun data base hbase => ?_, fun port data base hbase => ?_⟩
  · exact congrArg Host.Outcome.next (if_pos rfl)
  · refine congrArg Host.Outcome.next ?_
    simp only [List.mem_cons, List.not_mem_nil, or_false] at hbase
    rcases hbase with rfl | rfl | rfl
    · exact if_pos rfl
    · exact arrive_drive_request s .m0 data
    · exact arrive_drive_request s .m1 data
  · obtain ⟨hcommand, hmanager, houtput⟩ := output_not_input s.node hbase
    exact congrArg Host.Outcome.next (arrive_output hcommand hmanager houtput)

/-! ## Request frames -/

theorem code_lt (r : Request) : r.code < 16 := by cases r <;> simp [Request.code]

/-- Byte 0 carries the code in its low four bits, whatever stands above (R169). -/
theorem requestCode_head (r : Request) (high : Fin 16) (l : List Byte) :
    requestCode (BitVec.ofNat 8 (r.code + 16 * high.val) :: l) = r.code := by
  have hcode := code_lt r
  have hhigh := high.isLt
  simp only [requestCode, byteAt, List.getD_cons_zero, BitVec.toNat_ofNat]
  omega

theorem joinBytes_wordBytes (w : Word) : joinBytes (lowByte w) (highByte w) = w := by
  unfold joinBytes lowByte highByte
  ext i hi
  simp only [BitVec.getElem_append, BitVec.getElem_extractLsb']
  split
  · simp [BitVec.getLsbD_eq_getElem hi]
  · rw [show 8 + (i - 8) = i by omega, BitVec.getLsbD_eq_getElem hi]

/-- A frame of a request, with any high nibble and further bytes, is decoded to it, every field as it stands. -/
theorem decodeRequest_encode (tag : Byte) (r : Request) (high : Fin 16) (extra : List Byte) :
    decodeRequest ((BitVec.ofNat 8 (r.code + 16 * high.val) :: (encodeRequest tag r).tail) ++ extra) = some r := by
  unfold decodeRequest
  rw [List.cons_append, requestCode_head]
  have hjoin := joinBytes_wordBytes
  cases r <;>
    simp [Request.code, requestMinLength, requestBody, encodeRequest, byteAt, wordAt, wordBytes, hjoin]

theorem requestTag_encode (tag : Byte) (r : Request) (high : Fin 16) (extra : List Byte) :
    requestTag ((BitVec.ofNat 8 (r.code + 16 * high.val) :: (encodeRequest tag r).tail) ++ extra) = tag := by
  cases r <;> simp [requestTag, byteAt, encodeRequest]

/-- Settles O4: the frame is decoded to its request, which the row is. -/
theorem requestFrameIsItsRow : Obligations.RequestFrameIsItsRow := by
  intro s m tag r high extra
  have harrive := arrive_request s m ((BitVec.ofNat 8 (r.code + 16 * high.val) :: (encodeRequest tag r).tail) ++ extra)
  rw [exec_row]
  refine congrArg Host.Outcome.next (harrive.trans ?_)
  unfold State.takeRequestFrame
  rw [decodeRequest_encode, requestTag_encode]

/-- The table of minimum lengths (Table 11-4). -/
theorem requestMinLength_eq (n : Nat) :
    requestMinLength n = ([5, 7, 3, 2, 2, 2, 3, 3, 4, 4, 3, 2] : List Nat)[n]? := by
  rcases Nat.lt_or_ge n 12 with h | h
  · interval_cases n <;> rfl
  · obtain ⟨k, rfl⟩ := Nat.exists_eq_add_of_le' h
    rfl

theorem byteAt_zero (data : List Byte) : byteAt data 0 = data.headD 0 := by cases data <;> rfl

/-- Settles O6: check 1 of R147 finds no request, and the answer carries what the frame has of code and tag. -/
theorem malformedRequestIsAnswered : Obligations.MalformedRequestIsAnswered := by
  intro s m data hshort
  have hcode : requestCode data = (data.headD 0).toNat % 16 := by rw [requestCode, byteAt_zero]
  have hnone : decodeRequest data = none := by
    unfold decodeRequest
    rw [requestMinLength_eq, hcode]
    split
    · rfl
    · exact if_pos (hshort _ ‹_›)
  have harrive := arrive_request s m data
  refine ⟨_, rfl, ?_⟩
  rw [harrive, State.takeRequestFrame, hnone, ← hcode]
  exact ⟨sendReply_repliedWith rfl rfl m _ _ { status := .badRequest }, sendReply_frame s m _ _ _⟩

end Sys2Proof.Machine
end

section
/-! The statements on the management requests that read or change single parts (R136, R139, R142, R147 to R153, R163). -/

namespace Sys2Proof.Machine

/-! ## A request and its answer -/

theorem takeRequest_turnedAway {s : State} {m : Manager} {r : Request} {st : Status} (h : s.guarded m r = s.refuse st)
    (tag : Byte) : turnedAway s (s.takeRequest m tag r) m r.code tag st :=
  takeRequest_refused h tag

theorem takeRequest_answered {s : State} {m : Manager} {r : Request} {x : Answer} (h : s.guarded m r = x) (tag : Byte) :
    s.takeRequest m tag r = x.state.sendReply m r.code tag x.reply := by rw [State.takeRequest, h]

/-- A request whose effect leaves the Cab Port and the node number alone is answered as its answer says, and changes
nothing but the Cab Port and the blocks of its effect. -/
theorem takeRequest_effected {s u : State} {m : Manager} {r : Request} {y : Reply} {l : List Block}
    (h : s.guarded m r = { state := u, reply := y }) (hf : unchangedExcept l s u) (hcab : Block.cab ∉ l)
    (hnode : Block.node ∉ l) (tag : Byte) :
    repliedWith s (s.takeRequest m tag r) m r.code tag y.status y.data ∧
      unchangedExcept (.cab :: l) s (s.takeRequest m tag r) := by
  rw [takeRequest_answered h]
  exact ⟨sendReply_repliedWith (hf.2 _ hcab) (hf.2 _ hnode) m _ tag y,
    unchangedExcept_comp hf (sendReply_frame u m _ tag y) (List.subset_cons_self _ _) (by simp)⟩

/-- Settles O41: check 2 of R147. -/
theorem lockedOutRequests : Obligations.LockedOutRequests := by
  intro s m tag r hl hread hfault hbite
  have hr : isReadRequest r = false := by
    cases r with
    | read space item => exact absurd rfl (hread space item)
    | faultRead part => exact absurd rfl (hfault part)
    | biteRead index part => exact absurd rfl (hbite index part)
    | write | openBank | switch | cancel | commitMap | ack | channelMode | linkMode | restart => rfl
  exact ⟨_, exec_row m tag r s, takeRequest_turnedAway (guarded_locked hl m hr) tag⟩

/-! ## WRITE: the checks before the owner -/

theorem serveWrite_past_end {s : State} {m : Manager} {space : Byte} {item value : Word} {n : Nat}
    (hn : spaceSize space.toNat = some n) (hi : n ≤ item.toNat) : s.serveWrite m space item value = s.refuse .badItem := by
  unfold State.serveWrite
  rw [hn]
  exact if_pos hi

theorem serveWrite_no_space {s : State} {m : Manager} {space : Byte} {item value : Word}
    (hn : spaceSize space.toNat = none) : s.serveWrite m space item value = s.refuse .badRequest := by
  unfold State.serveWrite
  rw [hn]

theorem serveWrite_bank (s : State) (m : Manager) (bank : BankId) {item : Word} (value : Word) (hi : item.toNat < 63) :
    s.serveWrite m (byteOf (bankCode bank)) item value = s.writeBankItem m bank item.toNat value := by
  cases bank <;> exact if_neg (Nat.not_le.2 hi)

theorem serveWrite_map (s : State) (m : Manager) {item : Word} (value : Word) (hi : item.toNat < 54) :
    s.serveWrite m 2 item value = s.writeMapItem item.toNat value := if_neg (Nat.not_le.2 hi)

theorem serveWrite_signal (s : State) (m : Manager) {item : Word} (value : Word) (hi : item.toNat < 49) :
    s.serveWrite m 3 item value = s.writeSignalItem item.toNat value := if_neg (Nat.not_le.2 hi)

theorem serveWrite_route (s : State) (m : Manager) {item : Word} (value : Word) (hi : item.toNat < 192) :
    s.serveWrite m 4 item value =
      if s.bite.state ≠ .idle then s.refuse .engineBusy else s.writeRouteItem item.toNat value := if_neg (Nat.not_le.2 hi)

theorem serveWrite_link (s : State) (m : Manager) {item : Word} (value : Word) (hi : item.toNat < 2) :
    s.serveWrite m 5 item value = s.writeLinkItem item.toNat value := if_neg (Nat.not_le.2 hi)

theorem spaceSize_bank (bank : BankId) : spaceSize (byteOf (bankCode bank)).toNat = some 63 := by cases bank <;> rfl

theorem spaceSize_eq (n : Nat) : spaceSize n = ([63, 63, 54, 49, 192, 2, 88] : List Nat)[n]? := by
  rcases Nat.lt_or_ge n 7 with h | h
  · interval_cases n <;> rfl
  · obtain ⟨k, rfl⟩ := Nat.exists_eq_add_of_le' h
    rfl

theorem spaceSize_none {n : Nat} (h : 7 ≤ n) : spaceSize n = none := by
  rw [spaceSize_eq]
  exact List.getElem?_eq_none h

/-! ## WRITE_LINK, and WRITE to other spaces -/

/-- A word that is not negative reads the same signed and unsigned. -/
theorem toNat_of_toInt_nonneg {w : Word} (h : 0 ≤ w.toInt) : w.toNat = w.toInt.toNat := by
  rw [BitVec.toInt_eq_toNat_cond] at *
  split at * <;> omega

theorem word_below_two {item : Word} (h : item.toNat < 2) : item = 0 ∨ item = 1 := by
  rcases Nat.lt_or_ge item.toNat 1 with h0 | h1
  · exact .inl (BitVec.eq_of_toNat_eq (by simp; omega))
  · exact .inr (BitVec.eq_of_toNat_eq (by simp; omega))

theorem writeLink_settled {s : State} (m : Manager) (tag : Byte) {item value : Word} (hl : notLockedOut s) :
    let v := value.toInt
    let stored : Prop := (item = 0 ∧ 20 ≤ v ∧ v ≤ 1000) ∨ (item = 1 ∧ 20 ≤ v ∧ v ≤ 5000)
    let t := s.takeRequest m tag (.write 5 item value)
    (2 ≤ item.toNat → turnedAway s t m 1 tag .badItem) ∧
    (item.toNat < 2 → ¬ stored → turnedAway s t m 1 tag .badValue) ∧
    (stored → repliedWith s t m 1 tag .ok [] ∧ unchangedExcept [.cab, .link] s t ∧
      t.link.cmdTimeout = (if item = 0 then v.toNat else s.link.cmdTimeout) ∧
      t.link.statusPeriod = (if item = 1 then v.toNat else s.link.statusPeriod)) := by
  intro v stored t
  have hserve : s.guarded m (.write 5 item value) = s.serveWrite m 5 item value := guarded_unlocked hl m _
  refine ⟨fun hi => takeRequest_turnedAway (hserve.trans (serveWrite_past_end rfl hi)) tag, fun hi hout => ?_, fun hin => ?_⟩
  · have howner := hserve.trans (serveWrite_link s m value hi)
    refine takeRequest_turnedAway (howner.trans ?_) tag
    rcases word_below_two hi with rfl | rfl
    · exact if_neg fun h => hout (.inl ⟨rfl, h⟩)
    · exact if_neg fun h => hout (.inr ⟨rfl, h⟩)
  · rcases hin with ⟨rfl, hv⟩ | ⟨rfl, hv⟩
    · have hstored := (hserve.trans (serveWrite_link s m value (by decide))).trans (if_pos hv)
      obtain ⟨hreply, hframe⟩ := takeRequest_effected hstored (withLink_frame s _) (by decide) (by decide) tag
      refine ⟨hreply, hframe, ?_⟩
      rw [show t = _ from takeRequest_answered hstored tag]
      exact ⟨toNat_of_toInt_nonneg (by omega), rfl⟩
    · have hstored := (hserve.trans (serveWrite_link s m value (by decide))).trans (if_pos hv)
      obtain ⟨hreply, hframe⟩ := takeRequest_effected hstored (withLink_frame s _) (by decide) (by decide) tag
      refine ⟨hreply, hframe, ?_⟩
      rw [show t = _ from takeRequest_answered hstored tag]
      exact ⟨rfl, toNat_of_toInt_nonneg (by omega)⟩

/-- Settles O43: the rows of WRITE to LINK are one request, and the last spaces take no write. -/
theorem writeLinkAndWriteElsewhere : Obligations.WriteLinkAndWriteElsewhere := by
  constructor
  · intro s m tag item value hl v stored c hc
    refine ⟨s.takeRequest m tag (.write 5 item value), ?_, writeLink_settled m tag hl⟩
    rcases hc with rfl | rfl <;> rfl
  · intro s m tag space item value hl hspace
    refine ⟨_, rfl, takeRequest_turnedAway ((guarded_unlocked hl m _).trans ?_) tag⟩
    change s.serveWrite m space item value = _
    by_cases h6 : space = 6
    · subst h6
      rw [if_pos rfl]
      unfold State.serveWrite
      exact ite_self _
    · rw [if_neg h6]
      have hne : space.toNat ≠ 6 := fun h => h6 (BitVec.eq_of_toNat_eq h)
      exact serveWrite_no_space (spaceSize_none (by omega))

/-! ## WRITE_BANK -/

theorem bank_withBank_self (p : ProfileBanks) (i : BankId) (b : Bank) : (p.withBank i b).bank i = b := by cases i <;> rfl

theorem afterBankWrite_foreign {s : State} {m : Manager} {bank : BankId} {r : Reservation} (h : s.reservation = some r)
    (hb : r.bank = bank) (hm : r.holder ≠ m) : (s.afterBankWrite m bank).reservation = none := by
  unfold State.afterBankWrite
  rw [h]
  simp only
  rw [if_pos ⟨hb, hm⟩]
  rfl

theorem afterBankWrite_kept {s : State} {m : Manager} {bank : BankId}
    (h : ∀ r, s.reservation = some r → r.bank ≠ bank ∨ r.holder = m) : s.afterBankWrite m bank = s := by
  unfold State.afterBankWrite
  split
  · rename_i r hr
    refine if_neg fun hboth => ?_
    rcases h r hr with hb | hm
    · exact hb hboth.1
    · exact hboth.2 hm
  · rfl

theorem afterBankWrite_stays {s : State} {m : Manager} {bank : BankId}
    (h : ∀ r, s.reservation = some r → r.bank ≠ bank ∨ r.holder = m) :
    (s.afterBankWrite m bank).reservation = s.reservation := by rw [afterBankWrite_kept h]

theorem get_setIfInBounds {n : Nat} (xs : Vector Word n) (i : Nat) (v : Word) (j : Fin n) :
    (xs.setIfInBounds i v)[j] = if i = j.val then v else xs[j] := Vector.getElem_setIfInBounds j.isLt

/-- Settles O44: the checks of R136 in turn, and the stored item. -/
theorem writeBankStoresInactive : Obligations.WriteBankStoresInactive := by
  intro s m tag bank item value hl
  have hserve : s.guarded m (.write (byteOf (bankCode bank)) item value) =
      s.serveWrite m (byteOf (bankCode bank)) item value := guarded_unlocked hl m _
  have howner := fun hi => hserve.trans (serveWrite_bank s m bank value hi)
  refine ⟨_, rfl, fun hi => ?_, fun hi hactive => ?_, fun hi hactive hpending => ?_, fun hi hactive hpending => ?_⟩
  · exact takeRequest_turnedAway (hserve.trans (serveWrite_past_end (spaceSize_bank bank) hi)) tag
  · exact takeRequest_turnedAway ((howner hi).trans (if_pos hactive)) tag
  · exact takeRequest_turnedAway ((howner hi).trans ((if_neg hactive).trans (if_pos hpending))) tag
  · have hstored := (howner hi).trans ((if_neg hactive).trans (if_neg (by simp [hpending])))
    have hafter := afterBankWrite_frame
      (s.withBanks (s.banks.withBank bank ((s.banks.bank bank).setIfInBounds item.toNat value))) m bank
    obtain ⟨hreply, hframe⟩ := takeRequest_effected hstored
      (unchangedExcept_comp (n := [.banks, .reservation]) (withBanks_frame s _) hafter (by decide) (by decide))
      (by decide) (by decide) tag
    obtain ⟨hvalid, hswitch⟩ := withBank_fields s.banks bank ((s.banks.bank bank).setIfInBounds item.toNat value)
    have hbanks : (s.takeRequest m tag (.write (byteOf (bankCode bank)) item value)).banks =
        s.banks.withBank bank ((s.banks.bank bank).setIfInBounds item.toNat value) := by
      rw [takeRequest_answered hstored]
      exact hafter.2 .banks (by decide)
    refine ⟨hreply, hframe, fun j => ?_, ?_, ?_, ?_, ?_, fun r hr hb hm => ?_, fun hkept => ?_⟩
    · rw [hbanks, bank_withBank_self]
      exact get_setIfInBounds _ _ _ j
    · unfold State.activeBank
      rw [hbanks, withBank_active, withBank_bank_ne _ _ hactive]
    · rw [hbanks, withBank_active]
    · rw [hbanks, hvalid]
    · rw [hbanks, hswitch, hpending]
    · rw [takeRequest_answered hstored]
      exact afterBankWrite_foreign hr hb hm
    · rw [takeRequest_answered hstored]
      exact afterBankWrite_stays
        (s := s.withBanks (s.banks.withBank bank ((s.banks.bank bank).setIfInBounds item.toNat value))) hkept

/-! ## OPEN and CANCEL -/

theorem isHolder_iff (s : State) (m : Manager) : s.isHolder m = true ↔ holdsReservation s m := by
  unfold State.isHolder holdsReservation
  cases h : s.reservation with
  | none => simp
  | some r =>
    obtain ⟨holder, bank⟩ := r
    simp

theorem not_isHolder_iff (s : State) (m : Manager) : (!s.isHolder m) = true ↔ ¬ holdsReservation s m := by
  rw [← isHolder_iff]
  simp

theorem serveOpen_unknown (s : State) (m : Manager) {bank : Byte} (h : 2 ≤ bank.toNat) :
    s.serveOpen m bank = s.refuse .badValue := by
  unfold State.serveOpen
  split
  · rfl
  · rename_i heq
    unfold bankOfCode at heq
    split at heq
    · omega
    · omega
    · cases heq

theorem serveOpen_bank (s : State) (m : Manager) {bank : Byte} {named : BankId} (h : bank.toNat = bankCode named) :
    s.serveOpen m bank =
      if s.banks.pendingSwitch then s.refuse .switchPending
      else if named = s.banks.active then s.refuse .activeBank
      else (s.withReservation (some { holder := m, bank := named })).accept := by
  unfold State.serveOpen
  rw [h]
  cases named <;> rfl

/-- Settles O48: the checks of OPEN and of CANCEL in turn. -/
theorem openReservesAndCancelRemoves : Obligations.OpenReservesAndCancelRemoves := by
  intro s m tag hl
  constructor
  · intro bank
    have hserve : s.guarded m (.openBank bank) = s.serveOpen m bank := guarded_unlocked hl m _
    refine ⟨_, rfl, fun hbad => ?_, fun named hnamed => ?_⟩
    · exact takeRequest_turnedAway (hserve.trans (serveOpen_unknown s m hbad)) tag
    · have hopen := hserve.trans (serveOpen_bank s m hnamed)
      refine ⟨fun hpending => ?_, fun hpending hactive => ?_, fun hpending hactive => ?_⟩
      · exact takeRequest_turnedAway (hopen.trans (if_pos hpending)) tag
      · exact takeRequest_turnedAway (hopen.trans ((if_neg (by simp [hpending])).trans (if_pos hactive))) tag
      · have hplaced := hopen.trans ((if_neg (by simp [hpending])).trans (if_neg hactive))
        obtain ⟨hreply, hframe⟩ := takeRequest_effected hplaced (withReservation_frame s _) (by decide) (by decide) tag
        refine ⟨hreply, hframe, ?_⟩
        rw [takeRequest_answered hplaced]
        rfl
  · have hserve : s.guarded m .cancel = s.serveCancel m := guarded_unlocked hl m _
    refine ⟨_, rfl, fun hholder => ?_, fun hholder hpending => ?_, fun hholder hpending => ?_⟩
    · exact takeRequest_turnedAway (hserve.trans (if_pos ((not_isHolder_iff s m).2 hholder))) tag
    · have hheld : ¬ (!s.isHolder m) = true := mt (not_isHolder_iff s m).1 (not_not.2 hholder)
      exact takeRequest_turnedAway (hserve.trans ((if_neg hheld).trans (if_neg (by simp [hpending])))) tag
    · have hheld : ¬ (!s.isHolder m) = true := mt (not_isHolder_iff s m).1 (not_not.2 hholder)
      have hremoved := hserve.trans ((if_neg hheld).trans (if_pos hpending))
      obtain ⟨hreply, hframe⟩ := takeRequest_effected hremoved (withBanks_frame s _) (by decide) (by decide) tag
      refine ⟨hreply, hframe, ?_⟩
      rw [takeRequest_answered hremoved]
      rfl

/-! ## SWITCH -/

theorem bankFault_none {b : Bank} (h : ∀ i : Fin 63, checkBankItem b i.val = true) : bankFault b = none := by
  refine List.find?_eq_none.2 fun i hi => ?_
  simp [h ⟨i, List.mem_range.1 hi⟩]

/-- The validation names the item below which every item passes (R137). -/
theorem bankFault_some {b : Bank} {i : Fin 63} (hi : checkBankItem b i.val = false)
    (hlow : ∀ j : Fin 63, j < i → checkBankItem b j.val = true) : bankFault b = some i.val := by
  unfold bankFault
  rw [List.find?_range_eq_some]
  refine ⟨by simp [hi], List.mem_range.2 i.isLt, fun j hj => ?_⟩
  simp [hlow ⟨j, by omega⟩ hj]

theorem wordBytes_item (i : Fin 63) : wordBytes (wordOfNat i.val) = [BitVec.ofNat 8 i.val, 0] := by
  revert i
  decide

theorem switchBanks_switched (s : State) : switchedIf true s s.switchBanks := ⟨rfl, rfl⟩

/-- Settles O49: the checks of SWITCH in turn, then the two ways of a valid bank. -/
theorem switchValidatesThenWaitsOrActs : Obligations.SwitchValidatesThenWaitsOrActs := by
  intro s m tag hl b
  have hserve : s.guarded m .switch = s.serveSwitch m := guarded_unlocked hl m _
  refine ⟨_, rfl, fun hholder => ?_, fun hholder hpending => ?_, fun hholder hpending => ?_⟩
  · exact takeRequest_turnedAway (hserve.trans (if_pos ((not_isHolder_iff s m).2 hholder))) tag
  · have hheld : ¬ (!s.isHolder m) = true := mt (not_isHolder_iff s m).1 (not_not.2 hholder)
    exact takeRequest_turnedAway (hserve.trans ((if_neg hheld).trans (if_pos hpending))) tag
  have hheld : ¬ (!s.isHolder m) = true := mt (not_isHolder_iff s m).1 (not_not.2 hholder)
  have hchecked := hserve.trans ((if_neg hheld).trans (if_neg (by simp [hpending])))
  constructor
  · intro i hi hlow
    rw [show bankFault (s.banks.bank (otherBank s.banks.active)) = some i.val from bankFault_some hi hlow] at hchecked
    rw [← wordBytes_item i]
    exact takeRequest_effected hchecked (unchangedExcept_refl [] s) (by decide) (by decide) tag
  · intro hvalid
    rw [show bankFault (s.banks.bank (otherBank s.banks.active)) = none from bankFault_none hvalid] at hchecked
    refine ⟨fun hcut => ?_, fun hcut => ?_⟩
    · have hwaits := hchecked.trans (if_pos hcut)
      obtain ⟨hreply, hframe⟩ := takeRequest_effected hwaits (withBanks_frame s _) (by decide) (by decide) tag
      refine ⟨hreply, hframe, ?_⟩
      rw [takeRequest_answered hwaits]
      rfl
    · have hacts := hchecked.trans (if_neg hcut)
      obtain ⟨hreply, hframe⟩ := takeRequest_effected hacts (switchBanks_frame s) (by decide) (by decide) tag
      rw [takeRequest_answered hacts] at *
      exact ⟨hreply, hframe, switchBanks_switched s, record_holds _ _⟩

end Sys2Proof.Machine
end

section
/-! The statements on ACK, the reads, and the modes (R98, R102, R131, R148, R163, R166). -/

namespace Sys2Proof.Machine

/-! ## ACK -/

theorem causeOfCode_causeCode (c : Cause) : causeOfCode (BitVec.ofNat 8 (causeCode c)).toNat = some c := by
  cases c with
  | slotLost n =>
    revert n
    decide
  | notFollowing ch => cases ch <;> rfl
  | stopLine | driveLinkDown | badCmd | badSample | trackLost | biteJam | cmdAbsent | cabLinkDown | kellyOverload
  | actionRefused | stall | bankSwitched | idConflict => rfl

theorem causeOfCode_unknown {n : Nat} (h : 23 ≤ n) : causeOfCode n = none := by
  obtain ⟨k, rfl⟩ := Nat.exists_eq_add_of_le' h
  rfl

theorem stillActive_iff (s : State) (c : Cause) : s.stillActive c = true ↔
    (c = .stopLine ∧ s.chan.stopLine = .asserted) ∨ (c = .driveLinkDown ∧ s.drive.state = .offline) := by
  cases c <;> simp [State.stillActive]

theorem serveAck_cause (s : State) (c : Cause) : s.serveAck (BitVec.ofNat 8 (causeCode c)) =
    if !s.faults.holds c then s.refuse .notFound
    else if s.stillActive c then s.refuse .stillActive
    else ((s.withFaults (s.faults.remove c)).clearLatch c).accept := by
  unfold State.serveAck
  rw [causeOfCode_causeCode]

theorem remove_tripPending_cleared {m : FaultMonitor} {c : Cause} (hc : c.cls = .t)
    (hnone : ∀ r ∈ (m.remove c).queue, r.cls ≠ .t) : (m.remove c).tripPending = false :=
  if_pos ⟨hc, fun h => by
    obtain ⟨r, hr, hcls⟩ := (hasClass_iff _ _).1 h
    exact hnone r hr hcls⟩

theorem remove_tripPending_kept {m : FaultMonitor} {c : Cause} (h : c.cls ≠ .t ∨ ∃ r ∈ (m.remove c).queue, r.cls = .t) :
    (m.remove c).tripPending = m.tripPending :=
  if_neg fun hboth => h.elim (fun hc => hc hboth.1) fun hheld => hboth.2 ((hasClass_iff _ _).2 hheld)

/-- Settles O51: the checks of ACK in turn, then the removal, the latch and the trip. -/
theorem ackRemovesAndReleases : Obligations.AckRemovesAndReleases := by
  intro s m tag hl
  constructor
  · intro code hcode
    refine ⟨_, rfl, takeRequest_turnedAway ((guarded_unlocked hl m _).trans ?_) tag⟩
    change s.serveAck code = _
    unfold State.serveAck
    rw [causeOfCode_unknown hcode]
  · intro c
    have hserve := (guarded_unlocked hl m (.ack (BitVec.ofNat 8 (causeCode c)))).trans (serveAck_cause s c)
    refine ⟨_, rfl, fun hheld => ?_, fun hheld hactive => ?_, fun hheld hactive => ?_⟩
    · exact takeRequest_turnedAway (hserve.trans (if_pos (by simp [hheld]))) tag
    · exact takeRequest_turnedAway
        (hserve.trans ((if_neg (by simp [hheld])).trans (if_pos ((stillActive_iff s c).2 hactive)))) tag
    · have htaken := hserve.trans ((if_neg (by simp [hheld])).trans (if_neg (mt (stillActive_iff s c).1 hactive)))
      have hlatch := clearLatch_frame (s.withFaults (s.faults.remove c)) c
      obtain ⟨hreply, hframe⟩ := takeRequest_effected htaken (l := [.faults, .chan])
        (unchangedExcept_comp (withFaults_frame s _) hlatch (by decide) (by decide)) (by decide) (by decide) tag
      have hfaults : (s.takeRequest m tag (.ack (BitVec.ofNat 8 (causeCode c)))).faults = s.faults.remove c := by
        rw [takeRequest_answered htaken]
        exact hlatch.2 .faults (by decide)
      have hchan : (s.takeRequest m tag (.ack (BitVec.ofNat 8 (causeCode c)))).chan =
          ((s.withFaults (s.faults.remove c)).clearLatch c).chan := by rw [takeRequest_answered htaken]; rfl
      rw [hfaults, hchan]
      refine ⟨hreply, hframe, rfl, hl, fun hc => remove_tripPending_cleared ((cls_t_iff c).2 hc), fun hc => ?_,
        fun ch hc => ?_, fun hc => ?_, fun hfollow hoverload => ?_⟩
      · refine remove_tripPending_kept (hc.imp_left fun hne ht => ?_)
        exact ((cls_t_iff c).1 ht).elim hne.1 hne.2
      · subst hc
        rfl
      · subst hc
        rfl
      · cases c with
        | notFollowing ch => exact absurd rfl (hfollow ch)
        | kellyOverload => exact absurd rfl hoverload
        | stopLine | driveLinkDown | badCmd | badSample | slotLost | trackLost | biteJam | cmdAbsent | cabLinkDown
        | actionRefused | stall | bankSwitched | idConflict => rfl

/-! ## CHANNEL_MODE and LINK_MODE -/

theorem channelOfCode_unknown {n : Nat} (h : 3 ≤ n) : channelOfCode n = none := by
  obtain ⟨k, rfl⟩ := Nat.exists_eq_add_of_le' h
  rfl

theorem channelModeOfCode_unknown {n : Nat} (h : 3 ≤ n) : channelModeOfCode n = none := by
  obtain ⟨k, rfl⟩ := Nat.exists_eq_add_of_le' h
  rfl

theorem linkModeOfCode_unknown {n : Nat} (h : 2 ≤ n) : linkModeOfCode n = none := by
  obtain ⟨k, rfl⟩ := Nat.exists_eq_add_of_le' h
  rfl

theorem serveChannelMode_unknown (s : State) {channel mode : Byte} (h : 3 ≤ channel.toNat ∨ 3 ≤ mode.toNat) :
    s.serveChannelMode channel mode = s.refuse .badValue := by
  unfold State.serveChannelMode
  rcases h with h | h
  · rw [channelOfCode_unknown h]
  · rw [channelModeOfCode_unknown h]
    cases channelOfCode channel.toNat <;> rfl

theorem holdAfter_eq (before after : ChannelMode) (hold : Option Int) (prev : Int) :
    holdAfter before after hold prev =
      if after ≠ .hold then none else if before = .hold then hold else some prev := by
  cases before <;> cases after <;> rfl

theorem linkMode_settled {s : State} {m : Manager} (hl : notLockedOut s) {mode : Byte} {x : LinkMode}
    (hmode : linkModeOfCode mode.toNat = some x) (tag : Byte) :
    let t := s.takeRequest m tag (.linkMode mode)
    (x = s.chan.linkMode → turnedAway s t m 10 tag .ok) ∧
    (x ≠ s.chan.linkMode → s.bite.state ≠ .idle → turnedAway s t m 10 tag .engineBusy) ∧
    (x ≠ s.chan.linkMode → s.bite.state = .idle →
      repliedWith s t m 10 tag .ok [] ∧ unchangedExcept [.cab, .cond, .chan] s t ∧
      t.chan = { s.chan with linkMode := x } ∧ t.cond = { s.cond with prev := ⟨0, 0, 0⟩ }) := by
  intro t
  have hserve : s.guarded m (.linkMode mode) =
      if x = s.chan.linkMode then s.accept
      else if s.bite.state ≠ .idle then s.refuse .engineBusy
      else ((s.withChan { s.chan with linkMode := x }).withPrev zeroSetpoints).accept := by
    rw [guarded_unlocked hl, State.serve, State.serveLinkMode, hmode]
  refine ⟨fun hsame => ?_, fun hother hbusy => ?_, fun hother hidle => ?_⟩
  · exact takeRequest_turnedAway (hserve.trans (if_pos hsame)) tag
  · exact takeRequest_turnedAway (hserve.trans ((if_neg hother).trans (if_pos hbusy))) tag
  · have hchanged := hserve.trans ((if_neg hother).trans (if_neg (not_not.2 hidle)))
    obtain ⟨hreply, hframe⟩ := takeRequest_effected hchanged (l := [.cond, .chan])
      (unchangedExcept_comp (withChan_frame s _) (withPrev_frame _ _) (by decide) (by decide))
      (by decide) (by decide) tag
    refine ⟨hreply, hframe, ?_⟩
    rw [show t = _ from takeRequest_answered hchanged tag]
    exact ⟨rfl, rfl⟩

/-- Settles O53: the codes of both tables, and the effects of the two requests. -/
theorem modesChange : Obligations.ModesChange := by
  intro s m tag hl
  refine ⟨fun channel mode hbad => ?_, ?_, fun mode hbad => ?_, fun x => ?_⟩
  · refine ⟨_, rfl, takeRequest_turnedAway ((guarded_unlocked hl m _).trans ?_) tag⟩
    exact serveChannelMode_unknown s hbad
  · intro c x channel mode
    have hserve : s.guarded m (.channelMode channel mode) = (s.changeMode c x).accept :=
      (guarded_unlocked hl m _).trans (by cases c <;> cases x <;> rfl)
    obtain ⟨hreply, hframe⟩ := takeRequest_effected hserve (changeMode_frame s c x) (by decide) (by decide) tag
    refine ⟨_, rfl, hreply, hframe, ?_, ?_⟩
    · rw [takeRequest_answered hserve]
      rfl
    · rw [takeRequest_answered hserve, ← holdAfter_eq]
      rfl
  · refine ⟨_, rfl, takeRequest_turnedAway ((guarded_unlocked hl m _).trans ?_) tag⟩
    change s.serveLinkMode mode = _
    unfold State.serveLinkMode
    rw [linkModeOfCode_unknown hbad]
  · exact ⟨_, rfl, linkMode_settled hl (by cases x <;> rfl) tag⟩

/-! ## FAULT_READ and BITE_READ -/

theorem guarded_read_answered {s : State} {m : Manager} {r : Request} {y : Reply} (hr : isReadRequest r = true)
    (h : s.serve m r = { state := s, reply := y }) (tag : Byte) :
    repliedWith s (s.takeRequest m tag r) m r.code tag y.status y.data :=
  (takeRequest_effected ((guarded_read s m hr).trans h) (unchangedExcept_refl [] s) (by decide) (by decide) tag).1

theorem takeRequest_read_frame (s : State) (m : Manager) {r : Request} (hr : isReadRequest r = true) (tag : Byte) :
    unchangedExcept [.cab] s (s.takeRequest m tag r) := by
  have hstate : (s.guarded m r).state = s := by rw [guarded_read s m hr, serve_read_state s m hr]
  have hframe := sendReply_frame (s.guarded m r).state m r.code tag (s.guarded m r).reply
  rw [hstate] at hframe
  rw [takeRequest_answered rfl, hstate]
  exact hframe

theorem faultRead_answered {s : State} {part : Byte} {y : Reply} (h : s.serveFaultRead part = { state := s, reply := y })
    (m : Manager) (tag : Byte) :
    repliedWith s (s.takeRequest m tag (.faultRead part)) m 7 tag y.status y.data :=
  guarded_read_answered (r := .faultRead part) rfl h tag

theorem biteRead_answered {s : State} {index part : Byte} {y : Reply}
    (h : s.serveBiteRead index part = { state := s, reply := y }) (m : Manager) (tag : Byte) :
    repliedWith s (s.takeRequest m tag (.biteRead index part)) m 8 tag y.status y.data :=
  guarded_read_answered (r := .biteRead index part) rfl h tag

theorem serveFaultRead_oldest {s : State} {r : FaultRecord} {rest : List FaultRecord} (h : s.faults.queue = r :: rest)
    {part : Byte} (hp : part.toNat < 2) : s.serveFaultRead part = s.respond (r.part part.toNat) := by
  unfold State.serveFaultRead
  rw [if_neg (by omega), h]

theorem serveBiteRead_record {s : State} {r : BiteRecord} {index part : Byte} (h : s.bite.log[index.toNat]? = some r)
    (hi : index.toNat < 8) (hp : part.toNat < 2) : s.serveBiteRead index part = s.respond (r.part part.toNat) := by
  unfold State.serveBiteRead
  rw [if_neg (by omega), h]

theorem byteOf_boolCode (x : Bool) : byteOf (boolCode x) = if x then 1 else 0 := by cases x <;> rfl

/-- A word with a low field of 12 bits and a high one of 4. -/
theorem word_fields_12 {lo hi : Nat} (hlo : lo < 4096) (hhi : hi < 16) :
    (wordOfNat (lo + 4096 * hi)).toNat % 4096 = lo ∧ (wordOfNat (lo + 4096 * hi)).toNat / 4096 = hi := by
  rw [wordOfNat, BitVec.toNat_ofNat]
  omega

/-- A word with a flag above a field of 11 bits and one of 4. -/
theorem word_fields_11 {lo mid : Nat} (hlo : lo < 2048) (hmid : mid < 16) (o : BiteOutcome) :
    (wordOfNat (lo + 2048 * mid + 32768 * outcomeCode o)).toNat % 2048 = lo ∧
      (wordOfNat (lo + 2048 * mid + 32768 * outcomeCode o)).toNat / 2048 % 16 = mid ∧
      ((wordOfNat (lo + 2048 * mid + 32768 * outcomeCode o)).getLsbD 15 = true ↔ o = .aborted) := by
  have hflag : (wordOfNat (lo + 2048 * mid + 32768 * outcomeCode o)).toNat = lo + 2048 * mid + 32768 * outcomeCode o := by
    rw [wordOfNat, BitVec.toNat_ofNat]
    cases o <;> simp only [outcomeCode] <;> omega
  rw [BitVec.getLsbD, Nat.testBit, hflag, Nat.shiftRight_eq_div_pow]
  cases o <;> simp only [outcomeCode] <;> refine ⟨by omega, by omega, ?_⟩
  · simp
    omega
  · simp
    omega

/-- A word with a field of 13 bits and one of 3. -/
theorem word_fields_13 {lo hi : Nat} (hlo : lo < 8192) (hhi : hi < 8) :
    (wordOfNat (lo + 8192 * hi)).toNat % 8192 = lo ∧ (wordOfNat (lo + 8192 * hi)).toNat / 8192 = hi := by
  rw [wordOfNat, BitVec.toNat_ofNat]
  omega

/-- Settles O52: the checks of the two reads in turn, then the parts of Table 11-5. -/
theorem recordsAreReadInParts : Obligations.RecordsAreReadInParts := by
  constructor
  · intro s m tag part
    refine ⟨_, rfl, takeRequest_read_frame s m rfl tag, fun hbad => ?_, fun hpart hempty => ?_, fun r rest hqueue => ?_⟩
    · exact faultRead_answered (y := { status := .badValue }) (if_pos hbad) m tag
    · refine faultRead_answered (y := { status := .notFound }) ?_ m tag
      unfold State.serveFaultRead
      rw [if_neg (by omega), hempty]
      rfl
    · constructor
      · rintro rfl
        rw [← byteOf_boolCode]
        exact faultRead_answered (serveFaultRead_oldest hqueue (by decide)) m tag
      · rintro rfl
        exact faultRead_answered (serveFaultRead_oldest hqueue (by decide)) m tag
  · intro s m tag index part
    refine ⟨_, rfl, takeRequest_read_frame s m rfl tag, fun hbad => ?_, fun hindex hpart => ⟨fun hpast => ?_, fun r hr => ?_⟩⟩
    · exact biteRead_answered (y := { status := .badValue }) (if_pos (by omega)) m tag
    · refine biteRead_answered (y := { status := .notFound }) ?_ m tag
      unfold State.serveBiteRead
      rw [if_neg (by omega), List.getElem?_eq_none hpast]
      rfl
    · intro hbl hbl' hpeakT hpush
      have hreply := biteRead_answered (serveBiteRead_record hr hindex hpart) m tag
      constructor
      · rintro rfl
        obtain ⟨hlow, hhigh⟩ := word_fields_12 (lo := r.bl.toNat % 4096) (hi := r.number % 16) (by omega) (by omega)
        exact ⟨_, hreply, by rw [hlow]; omega, hhigh⟩
      · rintro rfl
        obtain ⟨hpushLow, hnumber⟩ := word_fields_12 (lo := min r.peakPush.toNat 4095) (hi := r.number % 16) (by omega)
          (by omega)
        obtain ⟨htorque, hregrips, houtcome⟩ := word_fields_11 (lo := min r.peakT.toNat 2047) (mid := min r.regrips 15)
          (by omega) (by omega) r.outcome
        obtain ⟨hduration, hjams⟩ := word_fields_13 (lo := min r.duration 8191) (hi := min r.jams 7) (by omega) (by omega)
        exact ⟨_, _, _, hreply, by rw [hpushLow]; omega, hnumber, by rw [htorque]; omega, hregrips, houtcome, hduration,
          hjams⟩

end Sys2Proof.Machine
end

section
/-! The statement on READ (R148): the item as stored, and each value of the STATE space (Table 11-9). -/

namespace Sys2Proof.Machine

/-! ## Items of the STATE space -/

/-- Item j of the STATE space. -/
def State.stateWord (s : State) (j : Nat) : Word := s.stateItems.getD j 0

theorem flagWord_eq (x : Bool) : flagWord x = if x = true then 1 else 0 := by cases x <;> rfl

theorem optWord_eq (x : Option Int) : optWord x = match x with | none => 0 | some h => wordOf h := by cases x <;> rfl

theorem ctxWord_eq (b : BiteEngine) (f : BiteContext → Word) :
    b.ctxWord f = match b.ctx with | some x => f x | none => 0 := by
  unfold BiteEngine.ctxWord
  cases b.ctx <;> rfl

theorem lockWord_eq (x : Option (Fin 4)) :
    wordOfNat (lockCode x) = match x with | none => 0 | some p => wordOfNat (p.val + 1) := by cases x <;> rfl

theorem lostByCode_eq (r : Slot) :
    r.lostByCode = (if r.lostAbsence = true then 1 else 0) + if r.lostRange = true then 2 else 0 := by
  unfold Slot.lostByCode
  cases r.lostAbsence <;> cases r.lostRange <;> rfl

theorem holderWord_eq (r : Option Reservation) : wordOfNat (holderCode r) =
    match r with | none => 0 | some r => if r.holder = .m0 then 1 else 2 := by
  rcases r with _ | ⟨_ | _, _⟩ <;> rfl

theorem reservedWord_eq (r : Option Reservation) : wordOfNat (reservedBankCode r) =
    match r with | none => 0 | some r => wordOfNat (bankCode r.bank) := by cases r <;> rfl

theorem winchRef_eq (x : Option Int) : wordOf (truncDiv (x.getD 0) 10) =
    match x with | none => 0 | some x => wordOf (Int.tdiv x 10) := by cases x <;> rfl

theorem stateWord_tracker (s : State) :
    s.stateWord 0 = wordOfNat (governorCode s.governor) ∧ s.stateWord 1 = wordOfNat (trackerModeCode s.tracker.mode) ∧
    s.stateWord 2 = wordOfNat (lossCauseCode s.tracker.cause) ∧ s.stateWord 3 = wordOf (Int.tdiv s.tracker.xm 10) ∧
    s.stateWord 4 = wordOf (Int.tdiv s.tracker.xt 10) ∧ s.stateWord 5 = flagWord s.crowdReady ∧
    s.stateWord 6 = wordOf s.pushLimit := ⟨rfl, rfl, rfl, rfl, rfl, rfl, rfl⟩

theorem stateWord_junction (s : State) (k : Fin 5) :
    s.stateWord (7 + 3 * k.val) = wordOf s.tracker.junctions[k].ext ∧
    s.stateWord (8 + 3 * k.val) = wordOfNat (junctionStateCode s.tracker.junctions[k].state) ∧
    s.stateWord (9 + 3 * k.val) = wordOfNat (lockCode s.tracker.junctions[k].lock) := by
  fin_cases k <;> exact ⟨rfl, rfl, rfl⟩

theorem stateWord_slot (s : State) (i : SlotId) :
    s.stateWord (22 + 3 * i.val) = wordOfNat (slotStateCode (s.signal.slot i).state) ∧
    s.stateWord (23 + 3 * i.val) = wordOfNat (s.signal.slot i).lostByCode ∧
    s.stateWord (24 + 3 * i.val) = wordOf (inWireUnit i (s.effective i)) := by
  fin_cases i <;> exact ⟨rfl, rfl, rfl⟩

theorem stateWord_derived (s : State) : s.stateWord 43 = wordOf s.signal.torque ∧
    s.stateWord 44 = wordOf (max (-32768) (min s.signal.crowd 32767)) := ⟨rfl, rfl⟩

theorem stateWord_channel (s : State) (c : Channel) :
    s.stateWord (45 + channelNumber c) = wordOf (s.cond.prev.get c) ∧
    s.stateWord (50 + channelNumber c) = optWord (s.cond.hold.get c) ∧
    s.stateWord (53 + channelNumber c) = wordOfNat (channelModeCode (s.chan.mode.get c)) ∧
    s.stateWord (56 + channelNumber c) = flagWord (s.chan.follow.get c).latch ∧
    s.stateWord (59 + channelNumber c) = wordOfNat (s.chan.follow.get c).count := by
  cases c <;> exact ⟨rfl, rfl, rfl, rfl, rfl⟩

theorem stateWord_control (s : State) :
    s.stateWord 48 = flagWord s.cond.stallLatch ∧ s.stateWord 49 = wordOfNat s.cond.stallCount ∧
    s.stateWord 62 = optWord s.chan.follow.crowd.ref ∧
    s.stateWord 63 = wordOf (truncDiv (s.chan.follow.winch.ref.getD 0) 10) ∧
    s.stateWord 64 = flagWord s.chan.overloadLatch ∧ s.stateWord 65 = wordOfNat s.chan.overloadCount ∧
    s.stateWord 66 = wordOfNat (stopLevelCode s.chan.stopLine) ∧
    s.stateWord 67 = wordOfNat (linkModeCode s.chan.linkMode) := ⟨rfl, rfl, rfl, rfl, rfl, rfl, rfl, rfl⟩

theorem stateWord_bite (s : State) :
    s.stateWord 68 = wordOfNat (biteStateCode s.bite.state) ∧ s.stateWord 69 = wordOfNat (jamCauseCode s.bite.jamCause) ∧
    s.stateWord 70 = wordOfNat s.bite.counter ∧
    s.stateWord 71 = s.bite.ctxWord (fun x => wordOf (Int.tdiv x.d0 10)) ∧
    s.stateWord 72 = s.bite.ctxWord (fun x => wordOf (Int.tdiv x.hw 10)) ∧
    s.stateWord 73 = s.bite.ctxWord (fun x => wordOf x.bl) ∧ s.stateWord 74 = s.bite.ctxWord (fun x => wordOf x.rb) ∧
    s.stateWord 75 = s.bite.ctxWord (fun x => wordOfNat x.regrips) ∧
    s.stateWord 76 = s.bite.ctxWord (fun x => wordOfNat x.jams) ∧
    s.stateWord 77 = s.bite.ctxWord (fun x => wordOf x.peakT) ∧
    s.stateWord 78 = s.bite.ctxWord (fun x => wordOf (max 0 (min x.peakPush 32767))) :=
  ⟨rfl, rfl, rfl, rfl, rfl, rfl, rfl, rfl, rfl, rfl, rfl⟩

theorem stateWord_banks (s : State) :
    s.stateWord 79 = wordOfNat (bankCode s.banks.active) ∧ s.stateWord 80 = flagWord s.banks.activeValid ∧
    s.stateWord 81 = flagWord s.banks.pendingSwitch ∧ s.stateWord 82 = wordOfNat (portStateCode s.cab.state) ∧
    s.stateWord 83 = wordOfNat s.cab.drops ∧ s.stateWord 84 = wordOfNat (portStateCode s.drive.state) ∧
    s.stateWord 85 = wordOfNat s.drive.drops ∧ s.stateWord 86 = wordOfNat (holderCode s.reservation) ∧
    s.stateWord 87 = wordOfNat (reservedBankCode s.reservation) := ⟨rfl, rfl, rfl, rfl, rfl, rfl, rfl, rfl, rfl⟩

/-! ## READ -/

theorem shown_of {s : State} {n j : Nat} {x : Word} (h : s.stateWord j = x) : n = j → s.stateWord n = x := fun hn => hn ▸ h

theorem readItem_bank (s : State) {n : Nat} (j : Fin 63) (h : n = j.val) :
    s.readItem 0 n = s.banks.bankA[j] ∧ s.readItem 1 n = s.banks.bankB[j] := by
  subst h
  simp [State.readItem]

theorem readItem_map (s : State) {n : Nat} (j : Fin 54) (h : n = j.val) : s.readItem 2 n = s.kelly.items[j] := by
  subst h
  simp [State.readItem]

theorem slotItem_split {n : Nat} {i : SlotId} {j : Fin 7} (h : n = 7 * i.val + j.val) :
    Fin.ofNat 7 (n / 7) = i ∧ n % 7 = j.val := by
  refine ⟨Fin.ext ?_, by omega⟩
  rw [Fin.val_ofNat]
  omega

theorem routeItem_split {n : Nat} {k : Fin 32} {j : Fin 6} (h : n = 6 * k.val + j.val) :
    Fin.ofNat 32 (n / 6) = k ∧ n % 6 = j.val := by
  refine ⟨Fin.ext ?_, by omega⟩
  rw [Fin.val_ofNat]
  omega

theorem readItem_signal (s : State) {n : Nat} {i : SlotId} {j : Fin 7} (h : n = 7 * i.val + j.val) :
    s.readItem 3 n = (s.signal.slot i).cfg.item j.val := by
  obtain ⟨hi, hj⟩ := slotItem_split h
  simp only [State.readItem, hi, hj]

theorem readItem_route (s : State) {n : Nat} {k : Fin 32} {j : Fin 6} (h : n = 6 * k.val + j.val) :
    s.readItem 4 n = s.routes[k].item j.val := by
  obtain ⟨hk, hj⟩ := routeItem_split h
  simp only [State.readItem, hk, hj]

theorem serveRead_item {s : State} {space : Byte} {item : Word} {n : Nat} (hn : spaceSize space.toNat = some n) :
    s.serveRead space item =
      if n ≤ item.toNat then s.refuse .badItem else s.respond (wordBytes (s.readItem space.toNat item.toNat)) := by
  unfold State.serveRead
  rw [hn]

theorem read_answered {s : State} {space : Byte} {item : Word} {y : Reply}
    (h : s.serveRead space item = { state := s, reply := y }) (m : Manager) (tag : Byte) :
    repliedWith s (s.takeRequest m tag (.read space item)) m 0 tag y.status y.data :=
  guarded_read_answered (r := .read space item) rfl h tag

/-- Settles O42: the checks of READ, then each space's items. -/
theorem readReturnsTheItem : Obligations.ReadReturnsTheItem := by
  intro s m tag space item
  refine ⟨_, rfl, takeRequest_read_frame s m rfl tag, fun hspace => ?_, fun n hn => ⟨fun hpast => ?_, fun hitem => ?_⟩⟩
  · refine read_answered (y := { status := .badRequest }) ?_ m tag
    unfold State.serveRead
    rw [spaceSize_none hspace]
    rfl
  · exact read_answered (y := { status := .badItem }) ((serveRead_item ((spaceSize_eq _).trans hn)).trans (if_pos hpast)) m tag
  · refine ⟨s.readItem space.toNat item.toNat,
      read_answered ((serveRead_item ((spaceSize_eq _).trans hn)).trans (if_neg (Nat.not_le.2 hitem))) m tag,
      ?_, ?_, ?_, ?_, ?_, ?_, ?_, ?_⟩
    · rintro j rfl hj
      exact (readItem_bank s j hj).1
    · rintro j rfl hj
      exact (readItem_bank s j hj).2
    · rintro j rfl hj
      exact readItem_map s j hj
    · rintro i j rfl hj
      exact readItem_signal s hj
    · rintro k j rfl hj
      exact readItem_route s hj
    · rintro rfl rfl
      rfl
    · rintro rfl rfl
      rfl
    · rintro rfl
      obtain ⟨h0, h1, h2, h3, h4, h5, h6⟩ := stateWord_tracker s
      obtain ⟨h43, h44⟩ := stateWord_derived s
      obtain ⟨h48, h49, h62, h63, h64, h65, h66, h67⟩ := stateWord_control s
      obtain ⟨h68, h69, h70, h71, h72, h73, h74, h75, h76, h77, h78⟩ := stateWord_bite s
      obtain ⟨h79, h80, h81, h82, h83, h84, h85, h86, h87⟩ := stateWord_banks s
      rw [flagWord_eq] at h5 h48 h64 h80 h81
      rw [optWord_eq] at h62
      rw [winchRef_eq] at h63
      rw [ctxWord_eq] at h71 h72 h73 h74 h75 h76 h77 h78
      rw [holderWord_eq] at h86
      rw [reservedWord_eq] at h87
      refine ⟨⟨shown_of h0, shown_of h1, shown_of h2, shown_of h3, shown_of h4, shown_of h5, shown_of h6⟩,
        fun k => ?_, fun i => ?_, ⟨shown_of h43, shown_of h44⟩, fun c => ?_,
        ⟨shown_of h48, shown_of h49, shown_of h62, shown_of h63, shown_of h64, shown_of h65, shown_of h66, shown_of h67⟩,
        ⟨shown_of h68, shown_of h69, shown_of h70, shown_of h71, shown_of h72, shown_of h73, shown_of h74, shown_of h75,
          shown_of h76, shown_of h77, shown_of h78⟩,
        ⟨shown_of h79, shown_of h80, shown_of h81, shown_of h82, shown_of h83, shown_of h84, shown_of h85, shown_of h86,
          shown_of h87⟩⟩
      · obtain ⟨hext, hstate, hlock⟩ := stateWord_junction s k
        rw [lockWord_eq] at hlock
        exact ⟨shown_of hext, shown_of hstate, shown_of hlock⟩
      · obtain ⟨hstate, hlost, hvalue⟩ := stateWord_slot s i
        rw [lostByCode_eq] at hlost
        refine ⟨shown_of hstate, shown_of hlost, shown_of (hvalue.trans ?_)⟩
        unfold inWireUnit
        split
        · rename_i h
          rw [h]
          rfl
        · rfl
      · obtain ⟨hprev, hhold, hmode, hlatch, hcount⟩ := stateWord_channel s c
        rw [optWord_eq] at hhold
        rw [flagWord_eq] at hlatch
        exact ⟨shown_of hprev, shown_of hhold, shown_of hmode, shown_of hlatch, shown_of hcount⟩

end Sys2Proof.Machine
end

section
/-! The statements on WRITE_MAP, WRITE_ROUTE and COMMIT_MAP (R13, R38 to R43). -/

namespace Sys2Proof.Machine

/-! ## WRITE_MAP -/

theorem not_cutting_of_biteOk {s : State} (hs : biteOk s) (h : s.tracker.mode ≠ .tracking) :
    cutting s.bite.state = false := by
  obtain ⟨-, -, -, -, hplaced, -⟩ := hs
  exact Bool.eq_false_iff.2 fun hc => h (hplaced hc)

theorem writeMapItem_stored {s : State} (hs : biteOk s) (h : s.tracker.mode ≠ .tracking) (i : Nat) (v : Word) :
    s.writeMapItem i v = (((s.withKelly { items := s.kelly.items.setIfInBounds i v, committed := false }).withTracker
      s.tracker.unmap).refreshMapped i).accept := by
  have hcut := not_cutting_of_biteOk hs h
  unfold State.writeMapItem
  rw [if_neg h]
  dsimp only
  rw [deliverTrackerChange_unplaced]
  exact hcut

theorem toNat_eq_iff (w : Word) (n : Nat) (hn : n < 65536) : w.toNat = n ↔ w = BitVec.ofNat 16 n := by
  rw [← BitVec.toNat_inj, BitVec.toNat_ofNat, Nat.mod_eq_of_lt hn]

/-- A stored write of KT, AP or AR forms its quantity anew from what then stands (R39). -/
theorem refreshMapped_derived (s : State) (i : Nat) :
    (s.refreshMapped i).signal.torque = (if i = 6 then (s.refreshMapped i).torqueNow else s.signal.torque) ∧
    (s.refreshMapped i).signal.crowd = if i = 7 ∨ i = 8 then (s.refreshMapped i).crowdNow else s.signal.crowd := by
  have heff : ∀ j, (s.refreshMapped i).effective j = s.effective j := fun j => by
    unfold State.effective
    rw [refreshMapped_signal]
    rfl
  simp only [State.torqueNow, State.crowdNow, heff, refreshMapped_kelly, refreshMapped_signal, and_self]

/-- Settles O45: the checks of WRITE_MAP in turn, then the stored item and what it makes of the tracker and T or Fm. -/
theorem writeMapUnmaps : Obligations.WriteMapUnmaps := by
  intro s m tag item value hl hs
  have hserve : s.guarded m (.write 2 item value) = s.serveWrite m 2 item value := guarded_unlocked hl m _
  have howner := fun hi => hserve.trans (serveWrite_map s m value hi)
  refine ⟨_, rfl, fun hi => ?_, fun hi htracking => ?_, fun hi htracking => ?_⟩
  · exact takeRequest_turnedAway (hserve.trans (serveWrite_past_end rfl hi)) tag
  · exact takeRequest_turnedAway ((howner hi).trans (if_pos htracking)) tag
  · have hstored := (howner hi).trans (writeMapItem_stored hs htracking _ _)
    let u := (s.withKelly { items := s.kelly.items.setIfInBounds item.toNat value, committed := false }).withTracker
      s.tracker.unmap
    obtain ⟨hreply, hframe⟩ := takeRequest_effected hstored (l := [.kelly, .tracker, .signal])
      (unchangedExcept_comp (t := u) (l := [.kelly, .tracker])
        (unchangedExcept_comp (withKelly_frame s _) (withTracker_frame _ _) (by decide) (by decide))
        (refreshMapped_frame u item.toNat) (by decide) (by decide)) (by decide) (by decide) tag
    have hkelly : (u.refreshMapped item.toNat).kelly = u.kelly := refreshMapped_kelly u _
    have htracker : (u.refreshMapped item.toNat).tracker = s.tracker.unmap :=
      (refreshMapped_frame u item.toNat).2 .tracker (by decide)
    have hslots : (u.refreshMapped item.toNat).signal.slots = s.signal.slots := by rw [refreshMapped_signal]; rfl
    obtain ⟨htorque, hcrowd⟩ := refreshMapped_derived u item.toNat
    simp only [toNat_eq_iff item 6 (by decide)] at htorque
    simp only [toNat_eq_iff item 7 (by decide), toNat_eq_iff item 8 (by decide)] at hcrowd
    refine ⟨hreply, hframe, ?_⟩
    rw [takeRequest_answered hstored]
    exact ⟨congrArg KellyMap.committed hkelly,
      fun j => (congrArg (fun k : KellyMap => k.items[j]) hkelly).trans (get_setIfInBounds _ _ _ j),
      congrArg Tracker.mode htracker, congrArg Tracker.cause htracker, congrArg Tracker.xt htracker,
      (congrArg Tracker.xm htracker).trans rfl,
      fun k => (congrArg (fun x : Tracker => x.junctions[k]) htracker).trans (get_resetRecords k), hslots, htorque, hcrowd⟩

/-! ## COMMIT_MAP -/

theorem commitMap_eq {s : State} (hs : biteOk s) (h : s.tracker.mode ≠ .tracking) : s.commitMap =
    (s.withKelly { s.kelly with committed := true }).withTracker { s.tracker with mode := .seeking, cause := none } := by
  have hcut := not_cutting_of_biteOk hs h
  unfold State.commitMap
  rw [deliverTrackerChange_unplaced]
  exact hcut

theorem mapFault_none {m : MapItems} (h : ∀ x ∈ mapChecks m, x.passes = true) : mapFault m = none :=
  List.find?_eq_none.2 fun x hx => by simp [h x hx]

/-- The validation reports the first check that fails (R41). -/
theorem mapFault_first {m : MapItems} {pre post : List MapCheck} {c : MapCheck} (h : mapChecks m = pre ++ c :: post)
    (hpre : ∀ x ∈ pre, x.passes = true) (hc : c.passes = false) : mapFault m = some c := by
  refine List.find?_eq_some_iff_append.2 ⟨by simp [hc], pre, post, h, fun x hx => by simp [hpre x hx]⟩

theorem ratings_of_valid {m : MapItems} (hm : mapFault m = none) {k : Fin 5} (hk : junctionInUse m k = true) :
    0 ≤ ratingNested m k ∧ 0 ≤ ratingLocked m k ∧ 0 ≤ ratingFree m k := by
  have hmem := (mem_junctionsUsed m k).2 hk
  exact ⟨(junctionRating_of_valid hm hmem .nested).1, (junctionRating_of_valid hm hmem .locked).1,
    (junctionRating_of_valid hm hmem .free).1⟩

/-- Settles O50: the checks of COMMIT_MAP in turn, then the commit and what a valid map guarantees. -/
theorem commitMapValidates : Obligations.CommitMapValidates := by
  intro s m tag hl hs items
  have hserve : s.guarded m .commitMap = s.serveCommit := guarded_unlocked hl m _
  refine ⟨_, rfl, fun htracking => ?_, fun htracking => ?_⟩
  · exact takeRequest_turnedAway (hserve.trans (if_pos htracking)) tag
  have hchecked := hserve.trans (if_neg htracking)
  constructor
  · intro pre c post hsplit hpre hc
    rw [show mapFault s.kelly.items = some c from mapFault_first hsplit hpre hc] at hchecked
    exact takeRequest_effected hchecked (unchangedExcept_refl [] s) (by decide) (by decide) tag
  · intro hall
    have hv : mapFault items = none := mapFault_none hall
    rw [show mapFault s.kelly.items = none from hv] at hchecked
    have hcommitted : s.guarded m .commitMap = s.commitMap.accept := hchecked
    rw [commitMap_eq hs htracking] at hcommitted
    obtain ⟨hreply, hframe⟩ := takeRequest_effected hcommitted (l := [.kelly, .tracker])
      (unchangedExcept_comp (withKelly_frame s _) (withTracker_frame _ _) (by decide) (by decide)) (by decide) (by decide) tag
    obtain ⟨hsections, hsections'⟩ := mapSections_of_valid hv
    refine ⟨hreply, hframe, ?_, ?_, hsections, hsections', (nestWindow_of_valid hv).1, (lockWindow_of_valid hv).1,
      (deadband_of_valid hv).1, (lockTorque_of_valid hv).1, fun k hk => ?_⟩
    · rw [takeRequest_answered hcommitted]
      rfl
    · rw [takeRequest_answered hcommitted]
      rfl
    · obtain ⟨htravel, htravel'⟩ := travel_of_valid hv hk
      obtain ⟨hnested, hlocked, hfree⟩ := ratings_of_valid hv hk
      obtain ⟨hcount, hcount'⟩ := lockPointCount_of_valid hv hk
      refine ⟨htravel, htravel', hnested, hlocked, hfree, hcount, hcount', fun p hp => ?_⟩
      obtain ⟨habove, hbelow⟩ := lockInWindow_of_valid hv hk hp
      exact ⟨habove, hbelow, lockAscends_of_valid hv hk hp⟩

/-! ## WRITE_ROUTE -/

theorem bit_eq (w : Word) (i : Nat) : w.getLsbD i = decide (w.toNat / 2 ^ i % 2 = 1) := Nat.testBit_eq_decide_div_mod_eq

/-- The bits of a mapping item outside its four fields are 0 exactly if the fields make up the item (Table 11-8). -/
theorem mapping_bits_iff (w : Word) : w &&& 0xEE88 = 0 ↔ w.toNat =
    w.toNat % 8 + 16 * (w.toNat / 16 % 8) + 256 * (w.toNat / 256 % 2) + 4096 * (w.toNat / 4096 % 2) := by
  have hlt := w.isLt
  constructor
  · intro h
    have hbit : ∀ i, (0xEE88 : Word).getLsbD i = true → w.toNat / 2 ^ i % 2 = 0 := fun i hi => by
      have hclear : (w &&& 0xEE88).getLsbD i = false := by rw [h]; exact BitVec.getLsbD_zero
      rw [BitVec.getLsbD_and, hi, Bool.and_true, bit_eq, decide_eq_false_iff_not] at hclear
      omega
    have h3 := hbit 3 rfl
    have h7 := hbit 7 rfl
    have h9 := hbit 9 rfl
    have h10 := hbit 10 rfl
    have h11 := hbit 11 rfl
    have h13 := hbit 13 rfl
    have h14 := hbit 14 rfl
    have h15 := hbit 15 rfl
    omega
  · intro h
    refine BitVec.eq_of_getLsbD_eq fun i hi => ?_
    rw [BitVec.getLsbD_and, bit_eq]
    interval_cases i <;> simp <;> omega

/-- The mapping position of a written value reads back as the value (R13). -/
theorem mappingOfWord_item {w : Word} {x : Mapping} (h : mappingOfWord w.toNat = some x) : x.item = w := by
  unfold mappingOfWord at h
  split at h
  · split at h
    · dsimp only at h
      split at h
      · rename_i hfields
        cases h
        refine BitVec.eq_of_toNat_eq ?_
        have hlt := w.isLt
        have hsign : signednessCode (if w.toNat / 256 % 2 = 1 then .unsigned else .signed) = w.toNat / 256 % 2 := by
          split <;> simp only [signednessCode] <;> omega
        have hused : boolCode (decide (w.toNat / 4096 % 2 = 1)) = w.toNat / 4096 % 2 := by
          unfold boolCode
          simp only [decide_eq_true_eq]
          split <;> omega
        rw [Mapping.item, wordOfNat, BitVec.toNat_ofNat, hsign, hused, ← hfields]
        exact Nat.mod_eq_of_lt hlt
      · cases h
    · cases h
  · cases h

theorem mappingOfWord_isSome_iff (w : Word) :
    (mappingOfWord w.toNat).isSome = true ↔ w.toNat % 8 < 7 ∧ w.toNat / 16 % 8 < 7 ∧ w &&& 0xEE88 = 0 := by
  rw [mapping_bits_iff]
  unfold mappingOfWord
  split
  · rename_i hslot
    split
    · rename_i hoffset
      dsimp only
      split
      · rename_i hfields
        exact ⟨fun _ => ⟨hslot, hoffset, hfields⟩, fun _ => rfl⟩
      · rename_i hfields
        exact ⟨(fun h => nomatch h), fun h => absurd h.2.2 hfields⟩
    · rename_i hoffset
      exact ⟨(fun h => nomatch h), fun h => absurd h.2.1 hoffset⟩
  · rename_i hslot
    exact ⟨(fun h => nomatch h), fun h => absurd h.1 hslot⟩

theorem routeClassOfCode_isSome_iff (n : Nat) : (routeClassOfCode n).isSome = true ↔ n < 4 := by
  rcases Nat.lt_or_ge n 4 with h | h
  · interval_cases n <;> decide
  · obtain ⟨k, rfl⟩ := Nat.exists_eq_add_of_le' h
    rw [show routeClassOfCode (k + 4) = none from rfl]
    simp

theorem routeClassCode_of {n : Nat} {c : RouteClass} (h : routeClassOfCode n = some c) : routeClassCode c = n := by
  unfold routeClassOfCode at h
  split at h <;> cases h <;> rfl

/-- The value lies in the ranges of the fields of item j of a routing entry (R13, Table 11-8). -/
def routeValueOk (j : Fin 6) (value : Word) : Prop :=
  (j = 0 ∧ value.toNat / 256 < 2 ∧ value.toNat % 256 < 4) ∨ (j = 1 ∧ value.toNat < 2048) ∨
    (2 ≤ j.val ∧ value.toNat % 8 < 7 ∧ value.toNat / 16 % 8 < 7 ∧ value &&& 0xEE88 = 0)

/-- Item 0 of an entry: its port and class. -/
theorem edit_head {e : RouteEntry} {v : Nat} : e.edit 0 v =
    (routeClassOfCode (v % 256)).bind fun c =>
      if v / 256 = 0 then some { e with port := .cab, cls := c }
      else if v / 256 = 1 then some { e with port := .drive, cls := c }
      else none := by
  unfold RouteEntry.edit
  cases routeClassOfCode (v % 256) <;> rfl

theorem edit_isSome_iff (e : RouteEntry) (j : Fin 6) (w : Word) :
    (e.edit j.val w.toNat).isSome = true ↔ routeValueOk j w := by
  have hmap : ∀ f : Mapping → RouteEntry, ((mappingOfWord w.toNat).map f).isSome = true ↔
      w.toNat % 8 < 7 ∧ w.toNat / 16 % 8 < 7 ∧ w &&& 0xEE88 = 0 := fun f => by
    rw [Option.isSome_map, mappingOfWord_isSome_iff]
  unfold routeValueOk
  fin_cases j
  · have hcls := routeClassOfCode_isSome_iff (w.toNat % 256)
    change (e.edit 0 w.toNat).isSome = true ↔ _
    rw [edit_head]
    cases hc : routeClassOfCode (w.toNat % 256) <;> rw [hc] at hcls <;> simp at hcls ⊢
    · omega
    · split_ifs <;> simp <;> omega
  · simp [RouteEntry.edit]
  all_goals simpa [RouteEntry.edit] using mappingOfWord_isSome_iff w

theorem edit_head_item {e d : RouteEntry} {w : Word} (h : e.edit 0 w.toNat = some d) :
    wordOfNat (256 * portCode d.port + routeClassCode d.cls) = w ∧ d.ident = e.ident ∧ d.maps = e.maps := by
  rw [edit_head, Option.bind_eq_some_iff] at h
  obtain ⟨c, hc, hd⟩ := h
  have hcode := routeClassCode_of hc
  have hlt := w.isLt
  refine ⟨BitVec.eq_of_toNat_eq ?_, ?_⟩
  · rw [wordOfNat, BitVec.toNat_ofNat]
    split_ifs at hd <;> cases hd <;> simp only [portCode, hcode] <;> omega
  · split_ifs at hd <;> cases hd <;> exact ⟨rfl, rfl⟩

theorem edit_ident_item {e d : RouteEntry} {w : Word} (h : e.edit 1 w.toNat = some d) :
    d = { e with ident := d.ident } ∧ d.ident.setWidth 16 = w := by
  simp only [RouteEntry.edit, Option.ite_none_right_eq_some, Option.some.injEq] at h
  obtain ⟨hlt, rfl⟩ := h
  refine ⟨rfl, BitVec.eq_of_toNat_eq ?_⟩
  rw [BitVec.toNat_setWidth, BitVec.toNat_ofNat]
  omega

theorem edit_mapping {e d : RouteEntry} (p : Fin 4) {w : Word} (h : e.edit (p.val + 2) w.toNat = some d) :
    ∃ x, x.item = w ∧ d = { e with maps := e.maps.set p x } := by
  have hmap : (mappingOfWord w.toNat).map (fun x => ({ e with maps := e.maps.set p x } : RouteEntry)) = some d := by
    fin_cases p <;> exact h
  obtain ⟨x, hx, rfl⟩ := Option.map_eq_some_iff.1 hmap
  exact ⟨x, mappingOfWord_item hx, rfl⟩

theorem item_mapping (e : RouteEntry) (p : Fin 4) : e.item (p.val + 2) = e.maps[p].item := by fin_cases p <;> rfl

/-- An item of an entry is its head, its identifier, or a mapping position. -/
theorem routeItem_cases (j : Fin 6) : j = 0 ∨ j = 1 ∨ ∃ p : Fin 4, j.val = p.val + 2 := by
  revert j
  decide

/-- The written entry reads back as written, and otherwise as it stood (R13). -/
theorem edit_item {e d : RouteEntry} {j : Fin 6} {w : Word} (h : e.edit j.val w.toNat = some d) (l : Fin 6) :
    d.item l.val = if l = j then w else e.item l.val := by
  rcases routeItem_cases j with rfl | rfl | ⟨p, hj⟩
  · obtain ⟨hhead, hident, hmaps⟩ := edit_head_item h
    rcases routeItem_cases l with rfl | rfl | ⟨q, hl⟩
    · exact hhead
    · exact congrArg (BitVec.setWidth 16) hident
    · rw [if_neg (by omega), hl, item_mapping, item_mapping, hmaps]
  · obtain ⟨hd, hident⟩ := edit_ident_item h
    rcases routeItem_cases l with rfl | rfl | ⟨q, hl⟩
    · rw [hd]
      rfl
    · exact hident
    · rw [if_neg (by omega), hl, item_mapping, item_mapping, hd]
  · rw [hj] at h
    obtain ⟨x, hx, rfl⟩ := edit_mapping p h
    rcases routeItem_cases l with rfl | rfl | ⟨q, hl⟩
    · rw [if_neg (by omega)]
      rfl
    · rw [if_neg (by omega)]
      rfl
    · rw [hl, item_mapping, item_mapping]
      by_cases hpq : q = p
      · subst hpq
        rw [if_pos (by omega)]
        simpa using hx
      · rw [if_neg (by omega)]
        have hne : p.val ≠ q.val := fun hval => hpq (Fin.ext hval.symm)
        simp [hne]

theorem writeRouteItem_eq (s : State) {n : Nat} {k : Fin 32} {j : Fin 6} (h : n = 6 * k.val + j.val) (v : Word) :
    s.writeRouteItem n v =
      match s.routes[k].edit j.val v.toNat with
      | none => s.refuse .badValue
      | some e =>
        if e.cls ≠ .empty ∧ s.routeTaken k e then s.refuse .badValue
        else (s.withRoutes (s.routes.set k e)).accept := by
  obtain ⟨hk, hj⟩ := routeItem_split h
  simp only [State.writeRouteItem, hk, hj] <;> rfl

/-- Settles O47: the checks of WRITE_ROUTE in turn, then the stored entry. -/
theorem writeRouteStoresUnlessTaken : Obligations.WriteRouteStoresUnlessTaken := by
  constructor
  · intro s m tag item value hl hpast
    have hserve : s.guarded m (.write 4 item value) = s.serveWrite m 4 item value := guarded_unlocked hl m _
    exact ⟨_, rfl, takeRequest_turnedAway (hserve.trans (serveWrite_past_end rfl hpast)) tag⟩
  · intro s m tag k j item value hl hitem v inRange
    have hserve : s.guarded m (.write 4 item value) = s.serveWrite m 4 item value := guarded_unlocked hl m _
    have howner := hserve.trans (serveWrite_route s m value (by omega))
    refine ⟨_, rfl, fun hbusy => ?_, fun hidle hbad => ?_, fun hidle hin => ?_⟩
    · exact takeRequest_turnedAway (howner.trans (if_pos hbusy)) tag
    · have hnone : s.routes[k].edit j.val value.toNat = none :=
        Option.not_isSome_iff_eq_none.1 (mt (edit_isSome_iff _ j value).1 hbad)
      have hchecked := (howner.trans (if_neg (not_not.2 hidle))).trans (writeRouteItem_eq s hitem value)
      rw [hnone] at hchecked
      exact takeRequest_turnedAway hchecked tag
    · obtain ⟨e, he⟩ := Option.isSome_iff_exists.1 ((edit_isSome_iff s.routes[k] j value).2 hin)
      have hchecked := (howner.trans (if_neg (not_not.2 hidle))).trans (writeRouteItem_eq s hitem value)
      rw [he] at hchecked
      refine ⟨e, edit_item he, fun htaken => ?_, fun htaken => ?_⟩
      · exact takeRequest_turnedAway
          (hchecked.trans (if_pos ⟨htaken.1, (routeTaken_iff s k e).2 htaken.2⟩)) tag
      · have hstored := hchecked.trans (if_neg fun h => htaken ⟨h.1, (routeTaken_iff s k e).1 h.2⟩)
        obtain ⟨hreply, hframe⟩ := takeRequest_effected hstored (withRoutes_frame s _) (by decide) (by decide) tag
        refine ⟨hreply, hframe, fun l => ?_⟩
        rw [takeRequest_answered hstored]
        exact get_set_route s.routes k l e

end Sys2Proof.Machine
end

section
/-! The drive-following monitor in the words of the statements, the abort of a bite, and a class T report (R91, R104 to
R106, R125, R161, R162). -/

namespace Sys2Proof.Machine

/-! ## The drive-following monitor (R104 to R106) -/

theorem drivesFollows_iff (c : Channel) (delta pos : Int) (f : Follow) :
    drivesFollows c delta pos f = true ↔ following c delta pos f := by
  cases c <;> simp [drivesFollows, following, magnitude_eq_abs]

/-- The frame is one of a run that the drive does not follow (R105). -/
def followCounted (valid : Bool) (b : Bank) (c : Channel) (x pos : Int) (f : Follow) : Prop :=
  valid = true ∧ itemAt b (followItem c) = 1 ∧ f.latch = false ∧ itemAt b (followItem c + 1) ≤ |x| ∧
    ¬ following c (itemAt b (followItem c + 2)) pos f

section
variable {valid : Bool} {b : Bank} {c : Channel} {x pos : Int} {f : Follow}

theorem followItem_eq (c : Channel) : followBase c = followItem c := by cases c <;> rfl

theorem followCounted_iff : followCounted valid b c x pos f ↔
    (valid && followEnabled b c && !f.latch) = true ∧ ¬ magnitude x < followMin b c ∧
      ¬ drivesFollows c (followDelta b c) pos f = true := by
  rw [drivesFollows_iff, magnitude_eq_abs]
  simp only [followCounted, followEnabled, followMin, followDelta, followItem_eq, Bool.and_eq_true, Bool.not_eq_true',
    decide_eq_true_eq, not_lt, and_assoc]

theorem followTest_not_counted (h : ¬ followCounted valid b c x pos f) :
    followTest valid b c x pos f = (f.cleared, false) := by
  rw [followCounted_iff] at h
  unfold followTest
  split
  · rfl
  rename_i hactive
  split
  · rfl
  rename_i hmin
  split
  · rfl
  rename_i hfollows
  exact absurd ⟨by simpa using hactive, hmin, hfollows⟩ h

theorem followTest_counted (h : followCounted valid b c x pos f) : followTest valid b c x pos f =
    if itemAt b (followItem c + 3) ≤ (f.count + 1 : Int) then ({ latch := true, count := 0, ref := none }, true)
    else
      ({ latch := false, count := f.count + 1
         ref := if c = .rotary then none else if f.count = 0 then some pos else f.ref }, false) := by
  have hlatch : f.latch = false := h.2.2.1
  obtain ⟨hactive, hmin, hfollows⟩ := followCounted_iff.1 h
  unfold followTest
  rw [if_neg (by simp [hactive]), if_neg hmin, if_neg hfollows, followLimit, followItem_eq, hlatch]

/-- The test of one channel is what R104 to R106 say of its monitor. -/
theorem followTest_monitored : monitored valid b c x pos f (followTest valid b c x pos f).1 := by
  refine ⟨fun h => ?_, fun h hlimit => ?_, fun h hlimit => ?_⟩
  · rw [followTest_not_counted h]
    rfl
  · rw [followTest_counted h, if_pos hlimit]
  · rw [followTest_counted h, if_neg (not_le.2 hlimit)]

/-- A test reports exactly where it sets the latch (R106). -/
theorem followTest_reports (h : (followTest valid b c x pos f).2 = true) :
    itemAt b (followItem c) = 1 ∧ f.latch = false ∧ (followTest valid b c x pos f).1.latch = true := by
  by_cases hc : followCounted valid b c x pos f
  · rw [followTest_counted hc] at h ⊢
    split at h
    · rw [if_pos ‹_›]
      exact ⟨hc.2.1, hc.2.2.1, rfl⟩
    · cases h
  · rw [followTest_not_counted hc] at h
    cases h

theorem followTest_latches (hbefore : f.latch = false) (hafter : (followTest valid b c x pos f).1.latch = true) :
    (followTest valid b c x pos f).2 = true := by
  by_cases hc : followCounted valid b c x pos f
  · rw [followTest_counted hc] at hafter ⊢
    split at hafter
    · rw [if_pos ‹_›]
    · cases hafter
  · rw [followTest_not_counted hc] at hafter
    exact absurd (hbefore.symm.trans hafter) Bool.false_ne_true

end

theorem followChannel_follow (s : State) (c d : Channel) (x : Int) : (s.followChannel c x).chan.follow.get d =
    if d = c then
      (followTest s.banks.activeValid s.activeBank c x (s.effective (motionSlot c)) (s.chan.follow.get c)).1
    else s.chan.follow.get d := by
  have hslot : sensorSlot c = motionSlot c := by cases c <;> rfl
  rw [followChannel_chan, hslot]
  exact get_set _ _ _ _

/-- What a test reads besides its monitor is as it was before the tests of other channels. -/
theorem followChannel_readings (s : State) (c : Channel) (x : Int) :
    (s.followChannel c x).banks = s.banks ∧ (s.followChannel c x).activeBank = s.activeBank ∧
      ∀ i, (s.followChannel c x).effective i = s.effective i := by
  have h := followChannel_frame s c x
  have hbanks : (s.followChannel c x).banks = s.banks := h.2 .banks (by decide)
  exact ⟨hbanks, by rw [State.activeBank, hbanks, State.activeBank], effective_of_signal (h.2 .signal (by decide))⟩

/-- A drive setpoint frame is examined channel by channel (R104). -/
theorem followFrame_follow (s : State) (sp : PerChannel Int) (c : Channel) : (s.followFrame sp).chan.follow.get c =
    (followTest s.banks.activeValid s.activeBank c (sp.get c) (s.effective (motionSlot c)) (s.chan.follow.get c)).1 := by
  obtain ⟨hbanks, hactive, heff⟩ := followChannel_readings s .rotary sp.rotary
  obtain ⟨hbanks', hactive', heff'⟩ := followChannel_readings (s.followChannel .rotary sp.rotary) .crowd sp.crowd
  have hrotary : sp.get .rotary = sp.rotary := rfl
  have hcrowd : sp.get .crowd = sp.crowd := rfl
  have hwinch : sp.get .winch = sp.winch := rfl
  unfold State.followFrame
  cases c with
  | rotary => simp [followChannel_follow, hrotary]
  | crowd => simp [followChannel_follow, hcrowd, hbanks, hactive, heff]
  | winch => simp [followChannel_follow, hwinch, hbanks, hactive, heff, hbanks', hactive', heff']

theorem followFrame_monitored (s : State) (sp : PerChannel Int) (c : Channel) :
    monitored s.banks.activeValid s.activeBank c (sp.get c) (s.effective (motionSlot c)) (s.chan.follow.get c)
      ((s.followFrame sp).chan.follow.get c) := by
  rw [followFrame_follow]
  exact followTest_monitored

theorem zeroFrame_monitored (s : State) (c : Channel) :
    monitored s.banks.activeValid s.activeBank c 0 (s.effective (motionSlot c)) (s.chan.follow.get c)
      (s.zeroFrame.chan.follow.get c) := by
  have h := followFrame_monitored ((s.queueDrive zeroSetpoints .zeroFrame s.lastSeq).withPrev zeroSetpoints) zeroSetpoints c
  rwa [show zeroSetpoints.get c = 0 from const_get 0 c] at h

/-! ## The abort of a bite (R125) -/

theorem biteLeave_not_cut {s : State} (h : s.bite.state ≠ .cut) (n : BiteState) : s.biteLeave n = s.withBite
    { s.bite with state := n, jamCause := none, progressTimer := none, settleTimer := none } := if_neg h

theorem biteOutsideAbort_abortedFrom (s : State) : abortedFrom s s.biteOutsideAbort := by
  unfold State.biteOutsideAbort
  split
  · rename_i hidle
    refine ⟨fun _ => rfl, fun x _ hopen => absurd hidle hopen, ?_⟩
    rw [hidle]
    exact ⟨rfl, rfl⟩
  · rename_i hopen
    refine ⟨fun hidle => absurd hidle hopen, fun x hx _ => ?_, biteEnd_switched s _⟩
    rw [biteEnd_bite, hx]
    exact ⟨rfl, appendBite_logAppended _ _⟩

theorem abortedFrom_of_frame {l : List Block} {s u t : State} (h : unchangedExcept l s u) (hbite : Block.bite ∉ l)
    (hbanks : Block.banks ∉ l) (hres : Block.reservation ∉ l) (hclock : Block.clock ∉ l) (ht : abortedFrom u t) :
    abortedFrom s t := by
  have hb : u.bite = s.bite := h.2 .bite hbite
  have hp : u.banks = s.banks := h.2 .banks hbanks
  have hr : u.reservation = s.reservation := h.2 .reservation hres
  have hc : u.clock = s.clock := h.2 .clock hclock
  unfold abortedFrom switchedIf at ht ⊢
  rwa [hb, hp, hr, hc] at ht

theorem goNeutral_abortedFrom (s : State) : abortedFrom s s.goNeutral :=
  abortedFrom_of_frame (zeroFrame_frame s) (by decide) (by decide) (by decide) (by decide)
    (biteOutsideAbort_abortedFrom s.zeroFrame)

theorem biteEnd_faults {s : State} (h : ¬ (s.bite.state = .cut ∧ s.banks.pendingSwitch = true)) (o : BiteOutcome) :
    (s.biteEnd o).faults = s.faults := by
  by_cases hcut : s.bite.state = .cut
  · have hp : s.banks.pendingSwitch = false := Bool.eq_false_iff.2 fun hp => h ⟨hcut, hp⟩
    exact (bankWork_of_no_pending (biteEnd_bankWork s o) hp).2.2
  · unfold State.biteEnd
    rw [biteLeave_not_cut hcut]
    rfl

theorem biteOutsideAbort_faults {s : State} (h : ¬ (s.bite.state = .cut ∧ s.banks.pendingSwitch = true)) :
    s.biteOutsideAbort.faults = s.faults := by
  unfold State.biteOutsideAbort
  split
  · rfl
  · exact biteEnd_faults h _

/-! ## A class T report (R161, R162) -/

/-- The record of a new class T cause is made, and the governor tripped, or locked out where it was tripped. -/
def State.tripRecorded (s : State) (c : Cause) : State :=
  (s.record c).withFaults
    { queue := (s.record c).faults.queue, tripPending := true, lockout := s.faults.lockout || s.faults.tripPending }

theorem tripRecorded_frame (s : State) (c : Cause) : unchangedExcept [.faults] s (s.tripRecorded c) :=
  unchangedExcept_trans (record_frame s c) (withFaults_frame _ _)

/-- After the record and the trip the outputs go to neutral (R161, R162). -/
theorem reportTrip_new {s : State} {c : Cause} (h : s.faults.holds c = false) :
    s.reportTrip c = (s.tripRecorded c).goNeutral := by
  unfold State.tripRecorded
  rcases reportTrip_cases s c with ⟨hh, _⟩ | ⟨_, ht, he⟩ | ⟨_, ht, he⟩
  · rw [h] at hh
    cases hh
  · have hpending : (s.record c).faults.tripPending = true := ht
    rw [he, ht, Bool.or_true]
    dsimp only
    rw [hpending]
  · rw [he, ht, Bool.or_false]
    rfl

/-- What a new class T record leaves: the governor tripped or locked out, the outputs neutral, the bite ended. -/
structure Tripped (s t : State) : Prop where
  frame : unchangedExcept tripBlocks s t
  tripPending : t.faults.tripPending = true
  lockout : t.faults.lockout = (s.faults.lockout || s.faults.tripPending)
  drive : t.drive = s.drive.queueOwn (zeroFrameOf s.node s.lastSeq)
  cond : t.cond = { s.cond with prev := zeroSetpoints }
  chan : t.chan = { s.chan with follow := t.chan.follow }
  monitored : ∀ d : Channel, monitored s.banks.activeValid s.activeBank d 0 (s.effective (motionSlot d))
    (s.chan.follow.get d) (t.chan.follow.get d)
  aborted : abortedFrom s t

/-- Reports of other classes leave a class T record as it is (R159, R160). -/
theorem Noted.mem_trip {n : Nat} {m k : FaultMonitor} (h : Noted n m k) {r : FaultRecord} (ht : r.cls = .t)
    (hr : r ∈ m.queue) : r ∈ k.queue := by
  induction h with
  | none => exact hr
  | @one _ _ k' _ x hx _ ih =>
    have hk : r ∈ k'.queue := ih hr
    cases hheld : k'.holds x.cause
    · rw [noted_queue_of_new hheld, appendRecord]
      refine List.mem_append_left _ ?_
      split
      · exact evictOne_keeps_trip hk ht
      · exact hk
    · rw [noted_queue_of_holds hheld]
      refine List.mem_map.2 ⟨r, hk, if_neg fun he => hx ?_⟩
      rw [FaultRecord.cls, ← he]
      exact ht

theorem reportTrip_tripped {s : State} {c : Cause} (h : s.faults.holds c = false) : Tripped s (s.reportTrip c) := by
  have hframe := reportTrip_frame s c
  have hchan := reportTrip_chan s c
  have hrecorded := tripRecorded_frame s c
  rw [reportTrip_new h] at *
  have hnoted := goNeutral_noted (s.tripRecorded c)
  refine ⟨hframe, hnoted.tripPending, hnoted.lockout, (goNeutral_drive _).trans (zeroFrame_drive _), goNeutral_cond _,
    hchan, fun d => ?_, ?_⟩
  · rw [State.goNeutral, (biteOutsideAbort_frame _).2 .chan (by decide)]
    exact zeroFrame_monitored (s.tripRecorded c) d
  · exact abortedFrom_of_frame hrecorded (by decide) (by decide) (by decide) (by decide)
      (goNeutral_abortedFrom (s.tripRecorded c))

/-- The record of a new class T cause carries the context as it stood (R158). -/
theorem reportTrip_mem {s : State} {c : Cause} (hc : c.cls = .t) (h : s.faults.holds c = false) :
    recordOf s c ∈ (s.reportTrip c).faults.queue := by
  rw [reportTrip_new h]
  refine (goNeutral_noted _).mem_trip hc ?_
  change recordOf s c ∈ (s.record c).faults.queue
  rw [record_faults, noted_queue_of_new h]
  exact List.mem_append_right _ (List.mem_singleton.2 rfl)

theorem reportTrip_held {s : State} {c : Cause} (h : s.faults.holds c = true) : s.reportTrip c = s.record c := by
  rcases reportTrip_cases s c with ⟨_, he⟩ | ⟨hh, _⟩ | ⟨hh, _⟩
  · exact he
  · rw [h] at hh
    cases hh
  · rw [h] at hh
    cases hh

end Sys2Proof.Machine
end

section
/-! The statements on the STOP line, the links, the absent command, the timers of a bite, and the restart (R6, R10, R11, R35,
R100, R120, R122, R129, R154, R161, R162). -/

namespace Sys2Proof.Machine

/-- Settles O37: the held and the new class T record. -/
theorem stopLineTripsTheGovernor : Obligations.StopLineTripsTheGovernor := by
  intro s
  refine ⟨⟨_, rfl, withStop_frame s _, rfl, rfl⟩, _, rfl, ?_, ?_, fun hheld => ?_, fun hnew => ?_⟩
  · exact (reportTrip_frame (s.withStop .asserted) .stopLine).2 .stopInput (by decide)
  · exact reportTrip_chan (s.withStop .asserted) .stopLine
  · have hrecord : (s.withStop .asserted).reportTrip .stopLine = (s.withStop .asserted).record .stopLine :=
      reportTrip_held hheld
    rw [hrecord]
    refine ⟨unchangedExcept_comp (withStop_frame s _) (record_frame _ _) (by decide) (by decide), rfl, ?_⟩
    rcases record_cases (s.withStop .asserted) .stopLine with ⟨_, he⟩ | ⟨hh, _⟩
    · exact he
    · exact absurd (hheld.symm.trans hh) Bool.noConfusion
  · obtain ⟨hframe, htrip, hlock, hdrive, hcond, -, hmon, habort⟩ :=
      reportTrip_tripped (s := s.withStop .asserted) (c := .stopLine) hnew
    exact ⟨unchangedExcept_comp (withStop_frame s _) hframe (by decide) (by decide),
      reportTrip_mem (s := s.withStop .asserted) rfl hnew, htrip, hlock, hdrive, hcond, hmon,
      abortedFrom_of_frame (withStop_frame s _) (by decide) (by decide) (by decide) (by decide) habort⟩

/-! ## Link failure and recovery -/

theorem fail_port (p : Port) (h : p.state = .online) : p.fail =
    { state := .offline, offer := none, waiting := []
      drops := min (p.drops + (p.held.filter (fun q => decide (q.kind = .forwarded))).length) 65535 } := by
  rw [fail_online h, addDrops, Port.forwardedHeld, List.countP_eq_length_filter]
  rfl

theorem exec_transmitFailure_online {s : State} {port : PortId} (h : (s.port port).state = .online) :
    exec (.transmitFailure port) s = .next ((s.withPort port (s.port port).fail).reportLinkDown port) := by
  simp only [exec, execTransmitFailure, h]

theorem exec_transmitFailure_offline {s : State} {port : PortId} (h : (s.port port).state = .offline) :
    exec (.transmitFailure port) s = .next s := by
  simp only [exec, execTransmitFailure, h]

/-- A zero frame is discarded at an OFFLINE port (R11). -/
theorem reportTrip_drive_offline {s : State} (h : s.drive.state = .offline) (c : Cause) :
    (s.reportTrip c).drive = s.drive := by
  rcases reportTrip_drive s c with he | he
  · exact he
  · rcases queueOwn_cases s.drive (ownFrame s.node .driveSetpoint (setpointData zeroSetpoints .zeroFrame s.lastSeq)) with
      ⟨_, hq⟩ | ⟨ho, _⟩
    · rw [he, hq]
    · rw [h] at ho
      cases ho

/-- Settles O11: the state of the port, then the report or the trip. -/
theorem linkFailureAndRecovery : Obligations.LinkFailureAndRecovery := by
  intro s port p failed
  refine ⟨exec_transmitFailure_offline, fun honline hcab => ?_, fun honline hdrive => ?_, fun honline => ?_,
    fun hoffline => ?_⟩
  · subst hcab
    rw [exec_transmitFailure_online honline, fail_port _ honline]
    rfl
  · subst hdrive
    have hfail : (s.port .drive).fail = failed := fail_port _ honline
    have hframe := reportTrip_frame (s.withDrive failed) .driveLinkDown
    refine ⟨(s.withDrive failed).reportTrip .driveLinkDown, ?_, reportTrip_drive_offline (s := s.withDrive failed) rfl _,
      reportTrip_holds _ _ rfl (.inr rfl),
      unchangedExcept_comp (withDrive_frame s _) hframe (by decide) (by decide), fun hnew => ?_⟩
    · rw [exec_transmitFailure_online honline, hfail]
      rfl
    · have ht := reportTrip_tripped (s := s.withDrive failed) (c := .driveLinkDown) hnew
      have hlock := ht.lockout
      refine ⟨?_, ht.cond, fun htp => ⟨ht.tripPending, ?_⟩, fun htp => ⟨ht.tripPending, ?_⟩⟩
      · rw [reportTrip_new (s := s.withDrive failed) hnew]
        exact biteOutsideAbort_idle _
      · rw [hlock]
        change (s.faults.lockout || s.faults.tripPending) = _
        rw [htp, Bool.or_false]
      · rw [hlock]
        change (s.faults.lockout || s.faults.tripPending) = _
        rw [htp, Bool.or_true]
  · change Host.Outcome.next (s.withPort port (s.port port).recover) = _
    rw [recover_online honline, withPort_same]
  · refine ⟨_, rfl, ?_, ?_⟩
    · have h := withPort_frame s port (s.port port).recover
      cases port <;> exact h
    · rw [withPort_port_self, recover_offline hoffline]

/-! ## The absent command -/

/-- Settles O33: the zero frame, the report, then the abort, with what each leaves. -/
theorem commandAbsenceExpires : Obligations.CommandAbsenceExpires := by
  intro s
  have hzero := zeroFrame_frame (s.withCommandTimer s.link.cmdTimeout)
  have hbefore : unchangedExcept [.commandTimer, .drive, .cond, .chan, .faults] s
      (((s.withCommandTimer s.link.cmdTimeout).zeroFrame).record .cmdAbsent) :=
    unchangedExcept_comp (withCommandTimer_frame s _)
      (unchangedExcept_comp (n := [.drive, .cond, .chan, .faults]) hzero (record_frame _ _) (by decide) (by decide))
      (by decide) (by decide)
  refine ⟨_, rfl, ?_, ?_, commandAbsent_drive s, commandAbsent_cond s, commandAbsent_chan s, fun c => ?_, fun hnone => ?_, ?_⟩
  · exact unchangedExcept_comp hbefore (biteOutsideAbort_frame _) (by decide) (by decide)
  · rw [State.commandAbsent, (biteOutsideAbort_frame _).2 .commandTimer (by decide), (record_frame _ _).2 .commandTimer (by decide)]
    exact hzero.2 .commandTimer (by decide)
  · rw [State.commandAbsent, (biteOutsideAbort_frame _).2 .chan (by decide), (record_frame _ _).2 .chan (by decide)]
    exact zeroFrame_monitored (s.withCommandTimer s.link.cmdTimeout) c
  · have hstate := hbefore.2 .bite (by decide)
    have hbanks := hbefore.2 .banks (by decide)
    rw [State.commandAbsent, biteOutsideAbort_faults]
    · exact record_holds _ _
    · rwa [hstate, hbanks]
  · exact abortedFrom_of_frame hbefore (by decide) (by decide) (by decide) (by decide) (biteOutsideAbort_abortedFrom _)

/-! ## The timers of a bite -/

theorem enterJammed_switched (s : State) (c : JamCause) :
    switchedIf (decide (s.bite.state = .cut) && s.banks.pendingSwitch) s (s.enterJammed c) := biteLeave_switched s .jammed

/-- The end of a bite outside CUT changes the engine alone. -/
theorem biteEnd_not_cut {s : State} (h : s.bite.state ≠ .cut) (o : BiteOutcome) :
    s.biteEnd o = s.withBite (s.biteEnd o).bite := by
  unfold State.biteEnd
  rw [biteLeave_not_cut h]
  rfl

/-- Settles O35: the record's fields, and the two expiries. -/
theorem biteTimersExpire : Obligations.BiteTimersExpire := by
  refine ⟨fun x now outcome => rfl, fun s => ⟨fun hcut => ?_, fun hcut => ?_, fun hsettle => ?_, fun x hsettle hx => ?_⟩⟩
  · refine congrArg Host.Outcome.next ?_
    unfold State.noProgress
    split
    · exact absurd ‹_› hcut
    all_goals rfl
  · have hjam : s.noProgress = (s.enterJammed .biteJam).record .biteJam := by
      unfold State.noProgress
      rw [hcut]
    have hswitch := enterJammed_switched s .biteJam
    rw [hcut, decide_eq_true rfl, Bool.true_and] at hswitch
    refine ⟨_, congrArg Host.Outcome.next hjam, ?_, enterJammed_bite s .biteJam, hswitch, record_holds _ _⟩
    exact unchangedExcept_comp (enterJammed_frame s _) (record_frame _ _) (by decide) (by decide)
  · refine congrArg Host.Outcome.next ?_
    unfold State.settleOver
    split
    · exact absurd ‹_› hsettle
    all_goals rfl
  · have hend : s.settleOver = s.biteEnd .done := by
      unfold State.settleOver
      rw [hsettle]
    have hleave := biteEnd_not_cut (s := s) (by simp [hsettle]) .done
    have hbite := biteEnd_bite s .done
    rw [hx] at hbite
    refine ⟨_, congrArg Host.Outcome.next hend, ?_, ?_, ?_⟩
    · rw [hleave]
      exact withBite_frame s _
    · rw [hbite]
    · rw [hbite]
      exact appendBite_logAppended _ _

/-! ## RESTART -/

theorem reportTrip_bite_idle {s : State} (h : s.bite.state = .idle) (c : Cause) : (s.reportTrip c).bite = s.bite := by
  cases hheld : s.faults.holds c
  · exact (reportTrip_tripped hheld).aborted.1 h
  · rw [reportTrip_held hheld]
    rfl

theorem reportStopLine_bite_idle {s : State} (h : s.bite.state = .idle) : s.reportStopLine.bite = s.bite := by
  unfold State.reportStopLine
  split
  · exact reportTrip_bite_idle h _
  · rfl

theorem reportCauses_bite_idle {s : State} (h : s.bite.state = .idle) : s.reportStopLine.reportDriveLink.bite = s.bite := by
  have hstop := reportStopLine_bite_idle h
  unfold State.reportDriveLink
  split
  · exact (reportTrip_bite_idle (by rw [hstop, h]) _).trans hstop
  · exact hstop

/-- The engine at a restart: an open bite has ended, and no switch takes effect (log entry 10). -/
theorem restart_bite (s : State) : s.restart.bite = s.restartBanks.biteOutsideAbort.bite := by
  have hblocks : s.restartBlocks.bite = s.restartBanks.biteOutsideAbort.bite :=
    (restartBlocks_afterAbort s).2 .bite (by decide)
  have hidle : s.restartBlocks.bite.state = .idle := by
    rw [hblocks]
    exact biteOutsideAbort_idle _
  exact (reportCauses_bite_idle hidle).trans hblocks

theorem restartBlocks_commandTimer (s : State) : s.restartBlocks.commandTimer = s.link.cmdTimeout := by
  have hlink : s.restartBanks.biteOutsideAbort.link = s.link := (biteOutsideAbort_frame s.restartBanks).2 .link (by decide)
  rw [← hlink]
  rfl

theorem restartBlocks_lastSeq (s : State) : s.restartBlocks.lastSeq = s.lastSeq :=
  ((restartBlocks_afterAbort s).2 .lastSeq (by decide)).trans
    ((biteOutsideAbort_frame s.restartBanks).2 .lastSeq (by decide))

theorem restart_signal (s : State) : s.restart.signal = s.restartSlots.signal ∧ s.restart.kelly = s.kelly := by
  have hreports := reportCauses_frame s.restartBlocks
  obtain ⟨hsignal, hkelly⟩ := restartBlocks_signal s
  exact ⟨(hreports.2 .signal (by decide)).trans hsignal, (hreports.2 .kelly (by decide)).trans hkelly⟩

theorem restart_tracker (s : State) : s.restart.tracker = { s.tracker with
    mode := if s.kelly.committed then .seeking else .unmapped, cause := none, xm := s.restart.extensionNow } := by
  have hreports := reportCauses_frame s.restartBlocks
  have heff : ∀ i, s.restart.effective i = s.restartBlocks.effective i :=
    effective_of_signal (hreports.2 .signal (by decide))
  have hkelly : s.restart.kelly = s.restartBlocks.kelly := hreports.2 .kelly (by decide)
  have hext : s.restart.extensionNow = s.restartBlocks.extensionNow := by
    unfold State.extensionNow
    rw [heff, heff, hkelly]
  rw [hext]
  exact (hreports.2 .tracker (by decide)).trans (restartBlocks_tracker s)

theorem restart_cond (s : State) : s.restart.cond = s.cond.restarted := by
  rcases reportCauses_cond s.restartBlocks with h | h
  · exact h.trans (restartBlocks_cond s)
  · refine h.trans ?_
    rw [restartBlocks_cond]
    rfl

theorem reportCauses_chan (s : State) : s.reportStopLine.reportDriveLink.chan =
    { s.chan with follow := s.reportStopLine.reportDriveLink.chan.follow } := by
  have hstop : s.reportStopLine.chan = { s.chan with follow := s.reportStopLine.chan.follow } := by
    unfold State.reportStopLine
    split
    · exact reportTrip_chan s _
    · rfl
  unfold State.reportDriveLink
  split
  · rw [reportTrip_chan, hstop]
  · exact hstop

theorem restart_chan (s : State) : s.restart.chan = { s.chan with
    follow := s.restart.chan.follow, overloadLatch := false, overloadCount := 0, stopLine := s.stopInput } := by
  have h := reportCauses_chan s.restartBlocks
  rw [restartBlocks_chan] at h
  exact h

/-- The links and lines in order, a restart makes no report (R167). -/
theorem restart_in_order {s : State} (hstop : s.stopInput = .released) (hdrive : s.drive.state = .online) :
    s.restart = s.restartBlocks := by
  have hline : s.restartBlocks.chan.stopLine = .released := by rw [restartBlocks_chan, ← hstop]; rfl
  have hport : s.restartBlocks.drive.state = .online := by rw [(restartBlocks_ports s).2.2, hdrive]
  have hnone : s.restartBlocks.reportStopLine = s.restartBlocks := if_neg (by simp [hline])
  rw [State.restart, hnone]
  exact if_neg (by simp [hport])

theorem restart_stop_only {s : State} (hstop : s.stopInput = .asserted) (hdrive : s.drive.state = .online) :
    s.restart = s.restartBlocks.reportTrip .stopLine := by
  have hline : s.restartBlocks.chan.stopLine = .asserted := by rw [restartBlocks_chan, ← hstop]; rfl
  have hport : (s.restartBlocks.reportTrip .stopLine).drive.state = .online := by
    rw [reportTrip_drive_state, (restartBlocks_ports s).2.2, hdrive]
  have hreport : s.restartBlocks.reportStopLine = s.restartBlocks.reportTrip .stopLine := if_pos hline
  rw [State.restart, hreport]
  exact if_neg (by simp [hport])

theorem restart_link_only {s : State} (hstop : s.stopInput = .released) (hdrive : s.drive.state = .offline) :
    s.restart = s.restartBlocks.reportTrip .driveLinkDown := by
  have hline : s.restartBlocks.chan.stopLine = .released := by rw [restartBlocks_chan, ← hstop]; rfl
  have hport : s.restartBlocks.drive.state = .offline := by rw [(restartBlocks_ports s).2.2, hdrive]
  have hnone : s.restartBlocks.reportStopLine = s.restartBlocks := if_neg (by simp [hline])
  rw [State.restart, hnone]
  exact if_pos hport

theorem restartBlocks_holds (s : State) (c : Cause) : s.restartBlocks.faults.holds c = false := by
  rw [restartBlocks_faults]
  rfl

/-- The trip of a restart's one report, which finds trip pending clear (R161, R167). -/
theorem restartBlocks_tripped {s : State} (hl : notLockedOut s) (c : Cause) :
    (s.restartBlocks.reportTrip c).faults.lockout = false ∧
    (s.restartBlocks.reportTrip c).drive = s.drive.queueOwn (zeroFrameOf s.node s.lastSeq) := by
  have ht := reportTrip_tripped (restartBlocks_holds s c)
  obtain ⟨hnode, -, hdrive⟩ := restartBlocks_ports s
  refine ⟨?_, ?_⟩
  · rw [ht.lockout, restartBlocks_faults, Bool.or_false]
    exact hl
  · rw [ht.drive, hdrive, hnode, restartBlocks_lastSeq]

theorem restart_faultsOk {s : State} (hl : notLockedOut s) : faultsOk s.restart := by
  refine reportCauses_faultsOk ?_
  rw [restartBlocks_faults]
  exact restartFaults_monitorOk hl

theorem restart_drive_offline {s : State} (h : s.drive.state = .offline) : s.restart.drive = s.drive := by
  have hport : s.restartBlocks.drive = s.drive := (restartBlocks_ports s).2.2
  have hstop : s.restartBlocks.reportStopLine.drive = s.drive := by
    unfold State.reportStopLine
    split
    · exact (reportTrip_drive_offline (hport ▸ h) _).trans hport
    · exact hport
  unfold State.restart State.reportDriveLink
  split
  · exact (reportTrip_drive_offline (hstop ▸ h) _).trans hstop
  · exact hstop

theorem tripPending_of_holds {s : State} (hs : faultsOk s) {c : Cause} (hc : c.cls = .t) (h : s.faults.holds c = true) :
    s.faults.tripPending = true := by
  obtain ⟨-, -, -, htrip, -⟩ := hs
  rw [htrip, holdsTrip_iff]
  rcases (cls_t_iff c).1 hc with rfl | rfl
  · exact .inl h
  · exact .inr h

/-- An engine at rest, with nothing running. -/
theorem bite_at_rest {b : BiteEngine} (hstate : b.state = .idle) (hjam : b.jamCause = none) (hctx : b.ctx = none)
    (hprogress : b.progressTimer = none) (hsettle : b.settleTimer = none) :
    b = { b with state := .idle, jamCause := none, ctx := none, progressTimer := none, settleTimer := none } := by
  cases b
  cases hstate
  cases hjam
  cases hctx
  cases hprogress
  cases hsettle
  rfl

/-- The engine's record once the bite of a restart has ended: IDLE, with nothing running. -/
theorem restart_bite_idle {s : State} (hs : biteOk s) : s.restart.bite =
    { s.bite with
      state := .idle, jamCause := none, ctx := none, progressTimer := none, settleTimer := none
      log := s.restart.bite.log } := by
  obtain ⟨hjam, hctx, hprogress, hsettle, -⟩ := hs
  obtain ⟨hkept, hended, -⟩ := biteOutsideAbort_abortedFrom s.restartBanks
  rw [restart_bite]
  by_cases hidle : s.bite.state = .idle
  · rw [hkept hidle]
    exact bite_at_rest (b := s.bite) hidle (by simpa [hidle] using hjam) (hctx.2 hidle)
      (by simpa [hidle] using hprogress) (by simpa [hidle] using hsettle)
  · obtain ⟨x, hx⟩ := Option.ne_none_iff_exists'.1 (mt hctx.1 hidle)
    exact (hended x hx hidle).1

theorem restart_log {s : State} (hs : biteOk s) : (s.bite.state = .idle → s.restart.bite.log = s.bite.log) ∧
    ∀ x, s.bite.ctx = some x → logAppended s.bite.log s.restart.bite.log (x.toRecord s.clock .aborted) := by
  obtain ⟨-, hctx, -⟩ := hs
  obtain ⟨hkept, hended, -⟩ := biteOutsideAbort_abortedFrom s.restartBanks
  rw [restart_bite]
  refine ⟨fun hidle => congrArg BiteEngine.log (hkept hidle), fun x hx => (hended x hx fun hidle => ?_).2⟩
  exact absurd (hx.symm.trans (hctx.2 hidle)) (by simp)

theorem restart_derived (s : State) : derivedOk s.restart := by
  obtain ⟨hsignal, hkelly⟩ := restart_signal s
  exact derivedOk_congr (s := s.restartSlots) (effective_of_signal hsignal) hkelly (by rw [hsignal]) (by rw [hsignal])
    ⟨rfl, rfl⟩

theorem restart_slot (s : State) (i : SlotId) : s.restart.signal.slot i = (s.signal.slot i).restarted := by
  rw [(restart_signal s).1]
  exact slot_restarted s.signal i

/-- What the reports of a restart leave of the Fault Monitor and the Drive Port (R100, R167). -/
theorem restart_reports {s : State} (hl : notLockedOut s) :
    (s.stopInput = .released → s.drive.state = .online →
      s.restart.faults = { queue := [], tripPending := false, lockout := false } ∧ s.restart.drive = s.drive ∧
      ∀ c : Channel, s.restart.chan.follow.get c = { latch := false, count := 0, ref := none }) ∧
    (s.stopInput = .asserted → s.restart.faults.holds .stopLine = true ∧ s.restart.faults.tripPending = true) ∧
    (s.drive.state = .offline → s.restart.faults.holds .driveLinkDown = true ∧ s.restart.faults.tripPending = true ∧
      s.restart.drive = s.drive) ∧
    (s.stopInput = .asserted → s.drive.state = .online →
      s.restart.faults.lockout = false ∧ s.restart.drive = s.drive.queueOwn (zeroFrameOf s.node s.lastSeq)) ∧
    (s.stopInput = .released → s.drive.state = .offline → s.restart.faults.lockout = false) := by
  have hok := restart_faultsOk hl
  have htrip := fun c => tripPending_of_holds hok (c := c)
  obtain ⟨-, -, -, -, -, hline, hlink⟩ := hok
  refine ⟨fun hstop hdrive => ?_, fun hstop => ?_, fun hdrive => ?_, fun hstop hdrive => ?_, fun hstop hdrive => ?_⟩
  · rw [restart_in_order hstop hdrive, restartBlocks_faults, restartBlocks_chan, (restartBlocks_ports s).2.2, hl]
    exact ⟨rfl, rfl, const_get Follow.rest⟩
  · have hheld := hline (by rw [restart_chan]; exact hstop)
    exact ⟨hheld, htrip _ rfl hheld⟩
  · have hdown := restart_drive_offline hdrive
    have hheld := hlink (by rw [hdown]; exact hdrive)
    exact ⟨hheld, htrip _ rfl hheld, hdown⟩
  · rw [restart_stop_only hstop hdrive]
    exact restartBlocks_tripped hl _
  · rw [restart_link_only hstop hdrive]
    exact (restartBlocks_tripped hl _).1

/-- Settles O54: block by block, then the reports of the line and the link. -/
theorem restartKeepsAndClears : Obligations.RestartKeepsAndClears := by
  intro s m tag hl hs
  have hserve : s.guarded m .restart = s.restart.accept := guarded_unlocked hl m _
  obtain ⟨hreply, hframe⟩ := takeRequest_effected hserve (restart_frame s) (by decide) (by decide) tag
  obtain ⟨hbanks, hreservation⟩ := restart_banks s
  have hbite := restart_bite_idle hs
  obtain ⟨hlog, happended⟩ := restart_log hs
  obtain ⟨htorque, hcrowd⟩ := restart_derived s
  have htimer : s.restart.commandTimer = s.link.cmdTimeout :=
    ((reportCauses_frame s.restartBlocks).2 .commandTimer (by decide)).trans (restartBlocks_commandTimer s)
  have hslots := restart_slot s
  have htracker := restart_tracker s
  have hcond := restart_cond s
  have hchan := restart_chan s
  have hreports := restart_reports hl
  refine ⟨_, rfl, hreply, unchangedExcept_mono (by decide) hframe, ?_⟩
  rw [takeRequest_answered hserve]
  generalize s.restart = r at *
  exact ⟨htimer, hbanks, hreservation, congrArg BiteEngine.state hbite, congrArg BiteEngine.ctx hbite,
    congrArg BiteEngine.jamCause hbite, congrArg BiteEngine.progressTimer hbite, congrArg BiteEngine.settleTimer hbite,
    (congrArg BiteEngine.counter hbite).trans rfl, hlog, happended, hslots, htorque, hcrowd, htracker, hcond, hchan,
    hreports⟩

end Sys2Proof.Machine
end

section
/-! The statements on what a drive command hands to the Bite Engine (R4, R72, R113, R115, R123, R124). -/

namespace Sys2Proof.Machine

/-! ## The action hand-off (R72) -/

theorem handOff_unknown {s : State} {n : Nat} (h : actionOfCode n = none) :
    s.handOff n = (s.record .actionRefused).withAction .none := by
  unfold State.handOff
  rw [h]

theorem handOff_held {s : State} {n : Nat} {a : Action} (h : actionOfCode n = some a) (ha : a = .none ∨ s.cond.action = a) :
    s.handOff n = s.withAction a := by
  unfold State.handOff
  rw [h]
  dsimp only
  rw [if_neg fun hedge => ha.elim hedge.1 fun hheld => hedge.2 hheld.symm]

theorem handOff_edge {s : State} {n : Nat} {a : Action} (h : actionOfCode n = some a) (hnone : a ≠ .none)
    (hedge : s.cond.action ≠ a) : s.handOff n = (s.biteAction a).withAction a := by
  unfold State.handOff
  rw [h]
  dsimp only
  rw [if_pos ⟨hnone, hedge.symm⟩]

theorem handOff_action (s : State) (n : Nat) : (s.handOff n).cond.action = (actionOfCode n).getD .none := by
  unfold State.handOff
  cases actionOfCode n <;> rfl

theorem actionOfCode_eq (n : Nat) :
    (actionOfCode n).getD .none = ([.none, .start, .abort, .resume] : List Action).getD n .none := by
  rcases Nat.lt_or_ge n 4 with h | h
  · interval_cases n <;> rfl
  · obtain ⟨k, rfl⟩ := Nat.exists_eq_add_of_le' h
    rfl

theorem actionOfCode_unknown {n : Nat} (h : 4 ≤ n) : actionOfCode n = none := by
  obtain ⟨k, rfl⟩ := Nat.exists_eq_add_of_le' h
  rfl

/-- Settles O12: the short frame, and block by block what a taken one leaves. -/
theorem driveCommandIsTakenOrDropped : Obligations.DriveCommandIsTakenOrDropped := by
  intro s data
  refine ⟨fun hshort => congrArg Host.Outcome.next (if_pos hshort), fun hd => ⟨_, exec_driveCommand hd, ?_⟩⟩
  have hstages := conditionCommand_frame (s.handedOff data) (commandRequests data) (commandSeq data)
  have hhandOff := handOff_frame (s.acceptCommand data) (commandAction data)
  have hframe := unchangedExcept_comp (n := commandBlocks) (handedOff_frame s data) hstages (by decide) (by decide)
  have haction : (s.handedOff data).cond.action = _ := handOff_action _ _
  refine ⟨(hstages.2 .lastSeq (by decide)).trans (hhandOff.2 .lastSeq (by decide)),
    (hstages.2 .commandTimer (by decide)).trans (hhandOff.2 .commandTimer (by decide)), ?_, ?_, ?_, ?_, ?_, ?_, ?_, hframe⟩
  · rw [command_cond, haction, actionOfCode_eq]
    rfl
  · rw [command_cond]
  all_goals rw [command_chan]

/-! ## Transitions outside CUT -/

theorem enterCut_not_cut {s : State} (h : s.bite.state ≠ .cut) : s.enterCut = s.withBite
    { s.bite with
      state := .cut, jamCause := none, settleTimer := none
      progressTimer := some (progressTime s.activeBank).toNat
      refDepth := (s.bite.ctx.map BiteContext.hw).getD s.bite.refDepth } := by
  unfold State.enterCut
  rw [biteLeave_not_cut h]
  rfl

/-- ENGAGE, entered outside CUT, with its check: CUT where the kelly is crowd-ready (R116). -/
theorem enterEngage_not_cut {s : State} (h : s.bite.state ≠ .cut) : s.enterEngage = s.withBite
    (if s.crowdReady then
      { s.bite with
        state := .cut, jamCause := none, settleTimer := none
        progressTimer := some (progressTime s.activeBank).toNat
        refDepth := (s.bite.ctx.map BiteContext.hw).getD s.bite.refDepth }
    else { s.bite with state := .engage, jamCause := none, progressTimer := none, settleTimer := none }) := by
  unfold State.enterEngage
  rw [biteLeave_not_cut h]
  let u := s.withBite { s.bite with state := .engage, jamCause := none, progressTimer := none, settleTimer := none }
  have hready : u.crowdReady = s.crowdReady := rfl
  change u.engageCheck = _
  unfold State.engageCheck
  rw [hready]
  split
  · exact enterCut_not_cut (s := u) (by simp [u])
  · rfl

/-! ## Edges of the action field -/

/-- A command whose hand-off leaves the engine and the banks alone leaves them alone (R72, R73). -/
theorem conditionCommand_work (u : State) (r : PerChannel Int) (q : Byte) :
    (u.conditionCommand r q).bite = u.bite ∧ (u.conditionCommand r q).banks = u.banks ∧
      (u.conditionCommand r q).reservation = u.reservation := by
  have h := conditionCommand_frame u r q
  exact ⟨h.2 .bite (by decide), h.2 .banks (by decide), h.2 .reservation (by decide)⟩

/-- What the engine does with an action that it cannot take: it reports it (R115, R123, R124). -/
theorem biteAction_refused (s : State) :
    (¬ (s.bite.state = .idle ∧ s.governor = .ready ∧ s.tracker.mode = .tracking) →
      s.biteAction .start = s.record .actionRefused) ∧
    (s.bite.state = .idle → s.biteAction .abort = s.record .actionRefused) ∧
    (¬ (s.bite.state = .jammed ∧ s.tracker.mode = .tracking) → s.biteAction .resume = s.record .actionRefused) := by
  refine ⟨fun h => if_neg h, fun h => ?_, fun h => if_neg h⟩
  unfold State.biteAction State.biteAbortAction
  dsimp only
  rw [h]

/-- Settles O13: the cases of the action field that hand nothing over, or what the engine refuses. -/
theorem actionsHeldUnknownOrRefused : Obligations.ActionsHeldUnknownOrRefused := by
  intro s data hd code accepted refused held
  have hexec := exec_driveCommand (s := s) hd
  have hrefused : refused ∨ 4 ≤ code → ∃ a, s.handedOff data = (accepted.record .actionRefused).withAction a := by
    obtain ⟨hstart, habort, hresume⟩ := biteAction_refused accepted
    rintro ((⟨hcode, hedge, hno⟩ | ⟨hcode, hedge, hno⟩ | ⟨hcode, hedge, hno⟩) | hcode)
    · refine ⟨.start, (handOff_edge (s := accepted) (congrArg actionOfCode hcode) (by decide) hedge).trans ?_⟩
      rw [hstart hno]
    · refine ⟨.abort, (handOff_edge (s := accepted) (congrArg actionOfCode hcode) (by decide) hedge).trans ?_⟩
      rw [habort hno]
    · refine ⟨.resume, (handOff_edge (s := accepted) (congrArg actionOfCode hcode) (by decide) hedge).trans ?_⟩
      rw [hresume hno]
    · exact ⟨.none, handOff_unknown (actionOfCode_unknown hcode)⟩
  have hheld : held → ∃ a, s.handedOff data = accepted.withAction a := by
    rintro (hcode | ⟨hcode, hmem⟩ | ⟨hcode, hmem⟩ | ⟨hcode, hmem⟩)
    · exact ⟨.none, handOff_held (s := accepted) (congrArg actionOfCode hcode) (.inl rfl)⟩
    · exact ⟨.start, handOff_held (s := accepted) (congrArg actionOfCode hcode) (.inr hmem)⟩
    · exact ⟨.abort, handOff_held (s := accepted) (congrArg actionOfCode hcode) (.inr hmem)⟩
    · exact ⟨.resume, handOff_held (s := accepted) (congrArg actionOfCode hcode) (.inr hmem)⟩
  refine ⟨fun h => ?_, fun h => ?_, fun h => ⟨_, hexec, ?_⟩⟩
  · obtain ⟨a, ha⟩ := hrefused h
    exact ⟨a, by rw [hexec, ha]⟩
  · obtain ⟨a, ha⟩ := hheld h
    exact ⟨a, by rw [hexec, ha]⟩
  · rw [← or_assoc] at h
    rcases h with h | h
    · obtain ⟨a, ha⟩ := hrefused h
      rw [ha]
      exact conditionCommand_work _ _ _
    · obtain ⟨a, ha⟩ := hheld h
      rw [ha]
      exact conditionCommand_work _ _ _

/-! ## START -/

/-- A bite opened in a part at rest (R113, R115, R116). -/
theorem biteStart_opens {s : State} (hidle : s.bite.state = .idle) (hready : s.governor = .ready)
    (htracking : s.tracker.mode = .tracking) : s.biteStart = s.withBite
    { s.bite with
      counter := nextBiteNumber s.bite.counter
      ctx := some s.newContext
      state := if s.crowdReady then .cut else .engage
      jamCause := if s.crowdReady then none else s.bite.jamCause
      settleTimer := if s.crowdReady then none else s.bite.settleTimer
      progressTimer := if s.crowdReady then some (progressTime s.activeBank).toNat else s.bite.progressTimer
      refDepth := if s.crowdReady then s.effective 6 else s.bite.refDepth } := by
  unfold State.biteStart
  rw [if_pos ⟨hidle, hready, htracking⟩]
  let u := s.withBite
    { s.bite with state := .engage, counter := nextBiteNumber s.bite.counter, ctx := some s.newContext }
  have hsame : u.crowdReady = s.crowdReady := rfl
  change u.engageCheck = _
  unfold State.engageCheck
  rw [hsame]
  cases hr : s.crowdReady
  · rfl
  · exact enterCut_not_cut (s := u) (by simp [u])

/-- Settles O14: the opened bite, which the stages leave as it is. -/
theorem startOpensABite : Obligations.StartOpensABite := by
  intro s data hd hcode hedge hs hidle hready htracking number
  obtain ⟨hjam, -, hprogress, hsettle, -, -, -, -, hcounter⟩ := hs
  have hjam' : s.bite.jamCause = none := by simpa [hidle] using hjam
  have hprogress' : s.bite.progressTimer = none := by simpa [hidle] using hprogress
  have hsettle' : s.bite.settleTimer = none := by simpa [hidle] using hsettle
  have hnumber : nextBiteNumber s.bite.counter = number := by
    simp only [nextBiteNumber, number]
    congr 1
    simp only [eq_iff_iff]
    omega
  have hhanded : s.handedOff data = ((s.acceptCommand data).biteStart).withAction .start :=
    handOff_edge (s := s.acceptCommand data) (congrArg actionOfCode hcode) (by decide) hedge
  rw [biteStart_opens (s := s.acceptCommand data) hidle hready htracking] at hhanded
  refine ⟨_, exec_driveCommand hd, ?_⟩
  obtain ⟨hbite, hbanks, hreservation⟩ := conditionCommand_work (s.handedOff data) (commandRequests data) (commandSeq data)
  rw [hbite, hbanks, hreservation, hhanded]
  have hcrowd : (s.acceptCommand data).crowdReady = s.crowdReady := rfl
  rw [hcrowd, ← hnumber]
  refine ⟨rfl, rfl, ?_, ?_, rfl, fun hr => ?_, fun hr => ?_, rfl, rfl⟩
  · change (if s.crowdReady then none else s.bite.jamCause) = none
    rw [hjam', ite_self]
  · change (if s.crowdReady then none else s.bite.settleTimer) = none
    rw [hsettle', ite_self]
  · rw [hr]
    exact ⟨rfl, rfl, rfl⟩
  · rw [hr]
    exact ⟨rfl, hprogress'⟩

/-! ## ABORT -/

/-- What ABORT does to an open bite (R123). -/
theorem biteAbortAction_ends {s : State} {x : BiteContext} (hx : s.bite.ctx = some x)
    (h : (s.bite.state = .engage ∨ s.bite.state = .regrip ∨ s.bite.state = .jammed ∨
      (s.bite.state = .cut ∧ finishBand s.activeBank < x.rb)) ∨ s.bite.state = .settle) :
    s.biteAbortAction = s.biteEnd (if s.bite.state = .settle then .done else .aborted) := by
  unfold State.biteAbortAction
  rcases h with (h | h | h | ⟨h, hband⟩) | h <;> rw [h]
  · rfl
  · rfl
  · rfl
  · rw [hx]
    exact if_pos hband
  · rfl

theorem biteAbortAction_near {s : State} (hcut : s.bite.state = .cut)
    (hband : ¬ finishBand s.activeBank < (s.bite.ctx.map BiteContext.rb).getD 0) : s.biteAbortAction = s := by
  unfold State.biteAbortAction
  rw [hcut]
  exact if_neg hband

theorem handedOff_abort {s : State} {data : List Byte} (hcode : (data.getD 1 0).toNat = 2) (hedge : s.cond.action ≠ .abort) :
    s.handedOff data = ((s.acceptCommand data).biteAbortAction).withAction .abort :=
  handOff_edge (s := s.acceptCommand data) (congrArg actionOfCode hcode) (by decide) hedge

/-- Settles O15: the end of the bite with its record, or the cut that goes on. -/
theorem abortEndsTheBite : Obligations.AbortEndsTheBite := by
  intro s data x hd hcode hedge hs hx ends
  have hhanded := handedOff_abort (data := data) hcode hedge
  obtain ⟨hbite, hbanks, hreservation⟩ := conditionCommand_work (s.handedOff data) (commandRequests data) (commandSeq data)
  constructor
  · intro hends
    let o : BiteOutcome := if s.bite.state = .settle then .done else .aborted
    have hend : (s.acceptCommand data).biteAbortAction = (s.acceptCommand data).biteEnd o := biteAbortAction_ends hx hends
    have hended := biteEnd_bite (s.acceptCommand data) o
    have hswitched := biteEnd_switched (s.acceptCommand data) o
    have hctx : (s.acceptCommand data).bite.ctx = some x := hx
    rw [hend] at hhanded
    rw [hctx] at hended
    refine ⟨_, exec_driveCommand hd, ?_⟩
    unfold switchedIf at hswitched ⊢
    rw [hbite, hbanks, hreservation, hhanded]
    change ((s.acceptCommand data).biteEnd o).bite.state = _ ∧ ((s.acceptCommand data).biteEnd o).bite.ctx = _ ∧
      ((s.acceptCommand data).biteEnd o).bite.jamCause = _ ∧ ((s.acceptCommand data).biteEnd o).bite.progressTimer = _ ∧
      ((s.acceptCommand data).biteEnd o).bite.settleTimer = _ ∧ ((s.acceptCommand data).biteEnd o).bite.counter = _ ∧
      logAppended s.bite.log ((s.acceptCommand data).biteEnd o).bite.log _ ∧ _
    rw [hended]
    exact ⟨rfl, rfl, rfl, rfl, rfl, rfl, appendBite_logAppended _ _, hswitched⟩
  · intro hcut hband
    have hnear := biteAbortAction_near (s := s.acceptCommand data) hcut (by
      change ¬ finishBand s.activeBank < (s.bite.ctx.map BiteContext.rb).getD 0
      rw [hx]
      exact not_lt.2 hband)
    refine ⟨_, exec_driveCommand hd, ?_⟩
    rw [hbite, hbanks, hreservation, hhanded, hnear]
    exact ⟨rfl, rfl, rfl⟩

/-! ## RESUME -/

/-- Settles O16: the entry to ENGAGE with its check, which the stages leave as it is. -/
theorem resumeLeavesJammed : Obligations.ResumeLeavesJammed := by
  intro s data x hd hcode hedge hjammed htracking hx
  have hresume : (s.acceptCommand data).biteAction .resume = (s.acceptCommand data).enterEngage :=
    if_pos ⟨hjammed, htracking⟩
  have hhanded : s.handedOff data = ((s.acceptCommand data).biteAction .resume).withAction .resume :=
    handOff_edge (s := s.acceptCommand data) (congrArg actionOfCode hcode) (by decide) hedge
  have hcut : (s.acceptCommand data).bite.state ≠ .cut := by
    change s.bite.state ≠ .cut
    simp [hjammed]
  rw [hresume, enterEngage_not_cut hcut] at hhanded
  obtain ⟨hbite, hbanks, hreservation⟩ := conditionCommand_work (s.handedOff data) (commandRequests data) (commandSeq data)
  refine ⟨_, exec_driveCommand hd, ?_⟩
  have hcrowd : (s.acceptCommand data).crowdReady = s.crowdReady := rfl
  have hctx : (s.acceptCommand data).bite.ctx = some x := hx
  rw [hbite, hbanks, hreservation, hhanded, hcrowd, hctx]
  cases hr : s.crowdReady
  · exact ⟨rfl, hx, rfl, rfl, rfl, rfl, rfl, (fun h => nomatch h), fun _ => ⟨rfl, rfl⟩⟩
  · exact ⟨rfl, hx, rfl, rfl, rfl, rfl, rfl, fun _ => ⟨rfl, rfl, rfl⟩, (fun h => nomatch h)⟩

/-! ## Held channels (R75) -/

theorem channelRequest_held {u : State} {c : Channel} {h : Int} (hmode : u.chan.mode.get c = .hold)
    (hhold : u.cond.hold.get c = some h) (r : PerChannel Int) : u.channelRequest r c = h := by
  unfold State.channelRequest
  rw [hmode, hhold]

theorem handedOff_chan (s : State) (data : List Byte) : (s.handedOff data).chan = s.chan :=
  (handedOff_frame s data).2 .chan (by decide)

theorem handedOff_hold (s : State) (data : List Byte) : (s.handedOff data).cond.hold = s.cond.hold := by
  rw [handedOff_cond]

theorem stageInput_request (u : State) (r : PerChannel Int) (c : Channel) :
    (u.stageInput r).request.get c = u.channelRequest r c := tabulate_get _ c

theorem stageInput_congr {u : State} {r r' : PerChannel Int} (h : ∀ c, u.channelRequest r c = u.channelRequest r' c) :
    u.stageInput r = u.stageInput r' := by
  have hrequest : u.channelRequest r = u.channelRequest r' := funext h
  unfold State.stageInput
  rw [hrequest]

theorem conditionCommand_congr {u : State} {r r' : PerChannel Int} (h : u.stageInput r = u.stageInput r') (q : Byte) :
    u.conditionCommand r q = u.conditionCommand r' q := by
  unfold State.conditionCommand State.stageOutput
  rw [h]

theorem channelRequest_congr {u : State} {r r' : PerChannel Int} {c : Channel} (h : r.get c = r'.get c) :
    u.channelRequest r c = u.channelRequest r' c := by
  unfold State.channelRequest
  rw [h]

/-- A channel's request is read from its own two bytes (Table 11-1). -/
theorem commandRequests_congr {x y : List Byte} {d : Channel}
    (h : ∀ i, i = 2 + 2 * channelNumber d ∨ i = 3 + 2 * channelNumber d → x.getD i 0 = y.getD i 0) :
    (commandRequests x).get d = (commandRequests y).get d := by
  have hlow := h _ (.inl rfl)
  have hhigh := h _ (.inr rfl)
  have hword : wordAt x (2 + 2 * channelNumber d) = wordAt y (2 + 2 * channelNumber d) := by
    unfold wordAt byteAt
    rw [hlow, show 2 + 2 * channelNumber d + 1 = 3 + 2 * channelNumber d by omega, hhigh]
  cases d with
  | rotary => exact congrArg (fun w : Word => clamp w.toInt (-600) 600) hword
  | crowd => exact congrArg (fun w : Word => clamp w.toInt (-2000) 2000) hword
  | winch => exact congrArg (fun w : Word => clamp w.toInt (-2000) 2000) hword

/-- Settles O23: the stages read a held channel's request nowhere, and the hand-off reads bytes 0 and 1 alone. -/
theorem heldChannelIgnoresItsRequest : Obligations.HeldChannelIgnoresItsRequest := by
  intro s c h hmode hhold
  have hheld : ∀ data r, (s.handedOff data).channelRequest r c = h := fun data r =>
    channelRequest_held (by rw [handedOff_chan]; exact hmode) (by rw [handedOff_hold]; exact hhold) r
  refine ⟨fun data hd => ⟨?_, exec_driveCommand hd⟩, fun x y hx hy hsame => ?_⟩
  · rw [stageInput_request]
    exact hheld data _
  · have hzero : x.getD 0 0 = y.getD 0 0 := hsame 0 (by omega) (by omega)
    have hone : x.getD 1 0 = y.getD 1 0 := hsame 1 (by omega) (by omega)
    have hhanded : s.handedOff x = s.handedOff y := by
      unfold State.handedOff State.acceptCommand commandAction commandSeq byteAt
      rw [hzero, hone]
    have hseq : commandSeq x = commandSeq y := hzero
    rw [exec_driveCommand hx.ge, exec_driveCommand hy.ge, hhanded, hseq]
    refine congrArg Host.Outcome.next (conditionCommand_congr (stageInput_congr fun d => ?_) _)
    by_cases hd : d = c
    · subst hd
      rw [hheld, hheld]
    · refine channelRequest_congr (commandRequests_congr fun i hi => hsame i ?_ ?_)
      all_goals
        revert hd hi
        cases c <;> cases d <;> simp [channelNumber] <;> omega

end Sys2Proof.Machine
end

section
/-! The statements on what a drive command leaves of the stall latch and the drive-following monitor (R78, R79, R104 to
R106). -/

namespace Sys2Proof.Machine

/-! ## The monitor's reports (R106) -/

/-- A monitor whose EN is off reports nothing. -/
theorem followChannel_silent {s : State} {c : Channel} (h : itemAt s.activeBank (followItem c) ≠ 1) (x : Int) :
    (s.followChannel c x).faults = s.faults := by
  unfold State.followChannel
  dsimp only
  split
  · rename_i hreports
    exact absurd (followTest_reports hreports).1 h
  · rfl

/-- A test that sets the latch is reported. -/
theorem followChannel_reported {s : State} {c : Channel} {x : Int}
    (h : (followTest s.banks.activeValid s.activeBank c x (s.effective (motionSlot c)) (s.chan.follow.get c)).2 = true) :
    (s.followChannel c x).faults.holds (.notFollowing c) = true := by
  have hslot : sensorSlot c = motionSlot c := by cases c <;> rfl
  unfold State.followChannel
  dsimp only
  rw [hslot, if_pos h]
  exact record_holds _ _

theorem followFrame_silent {s : State} (h : ∀ c, itemAt s.activeBank (followItem c) ≠ 1) (sp : PerChannel Int) :
    (s.followFrame sp).faults = s.faults := by
  obtain ⟨-, hactive, -⟩ := followChannel_readings s .rotary sp.rotary
  obtain ⟨-, hactive', -⟩ := followChannel_readings (s.followChannel .rotary sp.rotary) .crowd sp.crowd
  unfold State.followFrame
  rw [followChannel_silent (by rw [hactive', hactive]; exact h _), followChannel_silent (by rw [hactive]; exact h _),
    followChannel_silent (h _)]

/-- With no other monitor enabled, a latch set by the frame is held with its cause (R106, R160). -/
theorem followFrame_reported {s : State} {sp : PerChannel Int} {c : Channel}
    (hothers : ∀ d, d ≠ c → itemAt s.activeBank (followItem d) ≠ 1) (hbefore : (s.chan.follow.get c).latch = false)
    (hafter : ((s.followFrame sp).chan.follow.get c).latch = true) :
    (s.followFrame sp).faults.holds (.notFollowing c) = true := by
  rw [followFrame_follow] at hafter
  have hreports := followTest_latches hbefore hafter
  obtain ⟨hbanks, hactive, heff⟩ := followChannel_readings s .rotary sp.rotary
  obtain ⟨hbanks', hactive', heff'⟩ := followChannel_readings (s.followChannel .rotary sp.rotary) .crowd sp.crowd
  unfold State.followFrame
  cases c with
  | rotary =>
    rw [followChannel_silent (by rw [hactive', hactive]; exact hothers _ (by decide)),
      followChannel_silent (by rw [hactive]; exact hothers _ (by decide))]
    exact followChannel_reported hreports
  | crowd =>
    rw [followChannel_silent (by rw [hactive', hactive]; exact hothers _ (by decide))]
    refine followChannel_reported ?_
    rw [hbanks, hactive, heff, followChannel_follow]
    exact hreports
  | winch =>
    refine followChannel_reported ?_
    rw [hbanks', hbanks, hactive', hactive, heff', heff, followChannel_follow, if_neg (by decide), followChannel_follow,
      if_neg (by decide)]
    exact hreports

/-! ## The emission (R89) -/

/-- The frame of a command and its echo queued, the previous setpoints replaced, the monitor still to come (R89, R90). -/
def State.emitQueued (s : State) (sp : PerChannel Int) (flags : LimitFlags) (seq : Byte) : State :=
  match s.chan.linkMode with
  | .normal => (s.queueDrive sp flags seq).withPrev sp
  | .loopback =>
    ((s.queueCab .echo (setpointData sp flags seq)).queueDrive zeroSetpoints .zeroFrame seq).withPrev sp

/-- The setpoints that the Drive Port receives, which the monitor examines (R89, R104). -/
def driveSetpoints (mode : LinkMode) (sp : PerChannel Int) : PerChannel Int :=
  match mode with
  | .normal => sp
  | .loopback => zeroSetpoints

theorem emit_eq (s : State) (sp : PerChannel Int) (flags : LimitFlags) (seq : Byte) :
    s.emit sp flags seq = (s.emitQueued sp flags seq).followFrame (driveSetpoints s.chan.linkMode sp) := by
  unfold State.emit State.emitQueued
  cases s.chan.linkMode <;> rfl

theorem emitQueued_frame (s : State) (sp : PerChannel Int) (flags : LimitFlags) (seq : Byte) :
    unchangedExcept [.cab, .drive, .cond] s (s.emitQueued sp flags seq) := by
  unfold State.emitQueued
  split
  · exact unchangedExcept_comp (queueDrive_frame s _ _ _) (withPrev_frame _ _) (by decide) (by decide)
  · exact unchangedExcept_comp (unchangedExcept_comp (n := [.cab, .drive]) (queueCab_frame s _ _) (queueDrive_frame _ _ _ _)
      (by decide) (by decide)) (withPrev_frame _ _) (by decide) (by decide)

/-- The state of a command whose frame the monitor is to examine. -/
def State.conditioned (u : State) (r : PerChannel Int) (seq : Byte) : State :=
  (u.applyStall (u.stageOutput r)).emitQueued (u.stageOutput r).sent (u.stageOutput r).flags seq

theorem conditioned_frame (u : State) (r : PerChannel Int) (seq : Byte) :
    unchangedExcept [.cond, .faults, .cab, .drive] u (u.conditioned r seq) :=
  unchangedExcept_comp (applyStall_frame u _) (emitQueued_frame _ _ _ _) (by decide) (by decide)

theorem conditionCommand_eq (u : State) (r : PerChannel Int) (seq : Byte) :
    u.conditionCommand r seq = (u.conditioned r seq).followFrame (driveSetpoints u.chan.linkMode (u.stageOutput r).sent) := by
  unfold State.conditionCommand State.conditioned
  dsimp only
  rw [emit_eq, (applyStall_frame u _).2 .chan (by decide)]

/-- What the monitor reads is as the hand-off left it. -/
theorem conditioned_readings (u : State) (r : PerChannel Int) (seq : Byte) :
    (u.conditioned r seq).banks = u.banks ∧ (u.conditioned r seq).activeBank = u.activeBank ∧
      (∀ i, (u.conditioned r seq).effective i = u.effective i) ∧ (u.conditioned r seq).chan = u.chan := by
  have h := conditioned_frame u r seq
  have hbanks : (u.conditioned r seq).banks = u.banks := h.2 .banks (by decide)
  exact ⟨hbanks, by rw [State.activeBank, hbanks, State.activeBank], effective_of_signal (h.2 .signal (by decide)),
    h.2 .chan (by decide)⟩

/-! ## The stall latch (R78, R79) -/

theorem stageOutput_stall {u : State} (hv : u.banks.activeValid = true) (r : PerChannel Int) :
    ((u.stageOutput r).latch, (u.stageOutput r).count, (u.stageOutput r).stalled) =
      stallStep u.activeBank (magnitude u.signal.torque) (u.effective 0) u.cond.stallLatch u.cond.stallCount := by
  unfold State.stageOutput
  rw [if_pos hv]
  rfl

theorem stageOutput_invalid {u : State} (hv : u.banks.activeValid = false) (r : PerChannel Int) : u.stageOutput r =
    { sent := zeroSetpoints, flags := .zeroFrame, latch := u.cond.stallLatch, count := u.cond.stallCount
      stalled := false } := if_neg (by simp [hv])

/-- A stall is held where no monitor reports after it. -/
theorem conditionCommand_stall {u : State} {r : PerChannel Int} (hstall : (u.stageOutput r).stalled = true)
    (hsilent : ∀ c, itemAt u.activeBank (followItem c) ≠ 1) (seq : Byte) :
    (u.conditionCommand r seq).faults.holds .stall = true := by
  obtain ⟨-, hactive, -, -⟩ := conditioned_readings u r seq
  rw [conditionCommand_eq, followFrame_silent (by rw [hactive]; exact hsilent), State.conditioned,
    (emitQueued_frame _ _ _ _).2 .faults (by decide), State.applyStall]
  dsimp only
  rw [if_pos hstall]
  exact record_holds _ _

/-- Settles O21: the four cases of Stage 2 after the hand-off, which leaves the latch, its count and the readings. -/
theorem stallLatchSetsAndReleases : Obligations.StallLatchSetsAndReleases := by
  intro s data hd b a stalled
  have hcond := command_cond s data (commandRequests data) (commandSeq data)
  have hsignal : (s.handedOff data).signal = s.signal := (handedOff_frame s data).2 .signal (by decide)
  refine ⟨_, exec_driveCommand hd, fun hv => ?_, fun hv => ?_⟩
  · rw [hcond, stageOutput_invalid hv, handedOff_cond]
    exact ⟨rfl, rfl⟩
  · have hstall := stageOutput_stall hv (commandRequests data)
    rw [hsignal, effective_of_signal hsignal, handedOff_cond] at hstall
    rw [hcond]
    refine ⟨fun hset hrelease => ?_, fun hset hhold => ?_, fun hclear hstalled hcount => ?_,
      fun hclear hstalled hcount => ?_, fun hclear hstalled => ?_⟩
    · have h := (hset ▸ hstall).trans (if_pos hrelease)
      exact ⟨congrArg Prod.fst h, congrArg (fun x => x.2.1) h⟩
    · have h := (hset ▸ hstall).trans (if_neg (not_lt.2 hhold))
      exact ⟨congrArg Prod.fst h, congrArg (fun x => x.2.1) h⟩
    · have h := ((hclear ▸ hstall).trans (if_pos hstalled)).trans (if_pos hcount)
      refine ⟨congrArg Prod.fst h, congrArg (fun x => x.2.1) h, fun hsilent => ?_⟩
      refine conditionCommand_stall (congrArg (fun x => x.2.2) h) (fun c => ?_) _
      simpa [followEnabled, followItem_eq] using hsilent c
    · have h := ((hclear ▸ hstall).trans (if_pos hstalled)).trans (if_neg (not_le.2 hcount))
      exact ⟨congrArg Prod.fst h, congrArg (fun x => x.2.1) h⟩
    · have h := (hclear ▸ hstall).trans (if_neg hstalled)
      exact ⟨congrArg Prod.fst h, congrArg (fun x => x.2.1) h⟩

/-! ## The monitored frame -/

theorem driveSetpoints_get (mode : LinkMode) (sp : PerChannel Int) (c : Channel) :
    (driveSetpoints mode sp).get c = if mode = .normal then sp.get c else 0 := by
  cases mode
  · rfl
  · exact const_get 0 c

/-- Settles O25: the frame that the Drive Port receives, examined channel by channel. -/
theorem commandFrameIsMonitored : Obligations.CommandFrameIsMonitored := by
  intro s data hd u
  refine ⟨_, exec_driveCommand hd, ?_⟩
  intro c x
  obtain ⟨hbanks, hactive, heff, hchan⟩ := conditioned_readings u (commandRequests data) (commandSeq data)
  have hchanS : u.chan = s.chan := handedOff_chan s data
  have heffS : ∀ i, u.effective i = s.effective i := effective_of_signal ((handedOff_frame s data).2 .signal (by decide))
  have hx : (driveSetpoints u.chan.linkMode (u.stageOutput (commandRequests data)).sent).get c = x := by
    rw [driveSetpoints_get, hchanS]
    simp only [x]
    rw [command_cond]
  have hmonitored := followFrame_monitored (u.conditioned (commandRequests data) (commandSeq data))
    (driveSetpoints u.chan.linkMode (u.stageOutput (commandRequests data)).sent) c
  rw [hx, hbanks, hactive, heff, heffS, hchan, hchanS] at hmonitored
  rw [conditionCommand_eq]
  refine ⟨hchanS ▸ hmonitored, fun hbefore hafter hothers => ?_⟩
  refine followFrame_reported (fun d hdc => ?_) ?_ hafter
  · rw [hactive]
    exact hothers d hdc
  · rw [hchan, hchanS]
    exact hbefore

end Sys2Proof.Machine
end

section
/-! What a taken command sends (R71 to R90): the stages in the words of the aims, and the frame and its echo. -/

namespace Sys2Proof.Machine

/-! ## The channels and their aims (R76 to R86) -/

theorem limitMagnitude_eq (x limit : Int) : limitMagnitude x limit = x.sign * min |x| limit := by
  rw [limitMagnitude, magnitude_eq_abs]

theorem cutMagnitude_eq_heldWithin (x limit : Int) : cutMagnitude x limit = heldWithin limit x := by
  rw [cutMagnitude, heldWithin, magnitude_eq_abs]

/-- The envelope limit of a command's readings (R76). -/
def State.envelopeNow (u : State) : Int := envelopeLimit u.activeBank |u.signal.torque|

/-- The derate factor of a command's readings (R80). -/
def State.derateNow (u : State) : Int := derateFactor u.activeBank |u.signal.torque|

/-- The effective push limit of a command's readings (R80). -/
def State.pushNow (u : State) : Int := effectivePush u.pushLimit u.derateNow

/-- The push ceiling under a stall latch (R81). -/
def State.ceilingNow (u : State) (latch : Bool) : Int := pushCeiling u.pushNow (gateClosed u.bite.state) latch

theorem ceilingNow_spec (u : State) (latch : Bool) : (u.gated ∨ latch = true → u.ceilingNow latch = 0) ∧
    (¬ (u.gated ∨ latch = true) → u.ceilingNow latch = u.pushNow) := by
  rw [← gateClosed_iff_gated, State.ceilingNow, pushCeiling, ← Bool.or_eq_true]
  exact ⟨fun h => if_pos h, fun h => if_neg h⟩

theorem conditionRotary_eq (u : State) (r : PerChannel Int) : conditionRotary (u.stageInput r) =
    { target := (u.aimRotary u.envelopeNow (u.channelRequest r .rotary)).target
      setpoint := (u.aimRotary u.envelopeNow (u.channelRequest r .rotary)).setpoint
      flags := (rotaryFlags (u.channelRequest r .rotary) u.envelopeNow u.capOf).union
        (rotaryFlags (u.aimRotary u.envelopeNow (u.channelRequest r .rotary)).ramped u.envelopeNow u.capOf) } := by
  have hcap : speedCap (u.stageInput r).bank (u.stageInput r).bite = u.capOf := speedCap_eq_capOf u
  have henv : envelopeLimit (u.stageInput r).bank (u.stageInput r).a = u.envelopeNow :=
    congrArg (envelopeLimit u.activeBank) (magnitude_eq_abs _)
  unfold conditionRotary State.aimRotary
  dsimp only
  rw [hcap, henv, limitMagnitude_eq, cutMagnitude_eq_heldWithin]
  cases u.capOf <;> rfl

theorem conditionCrowd_eq (u : State) (r : PerChannel Int) (latch : Bool) : conditionCrowd (u.stageInput r) latch =
    { target := (u.aimCrowd (u.ceilingNow latch) (u.channelRequest r .crowd)).target
      setpoint := (u.aimCrowd (u.ceilingNow latch) (u.channelRequest r .crowd)).setpoint
      flags := (crowdFlags (u.channelRequest r .crowd) u.pushNow u.derateNow (gateClosed u.bite.state) latch).union
        (crowdFlags (u.aimCrowd (u.ceilingNow latch) (u.channelRequest r .crowd)).ramped u.pushNow u.derateNow
          (gateClosed u.bite.state) latch) } := by
  have hderate : derateFactor (u.stageInput r).bank (u.stageInput r).a = u.derateNow :=
    congrArg (derateFactor u.activeBank) (magnitude_eq_abs _)
  have hcut : ∀ x ceiling : Int, min x ceiling = if ceiling < x then ceiling else x := fun x ceiling => by
    split <;> omega
  unfold conditionCrowd State.aimCrowd
  dsimp only
  rw [hderate, hcut (ramp _ _ _ _)]
  rfl

/-- The hoist interlock as Stage 5 tests it (R86). -/
def State.hoistBlocked (u : State) (push w : Int) : Bool :=
  decide (0 < push) && decide (clamp w (-winchLimit u.activeBank) (winchLimit u.activeBank) < 0)

theorem hoistBlocked_iff (u : State) (push w : Int) : u.hoistBlocked push w = true ↔ u.hoistStopped push w := by
  rw [State.hoistBlocked, State.hoistStopped, Bool.and_eq_true, decide_eq_true_eq, decide_eq_true_eq]
  rfl

theorem conditionWinch_eq (u : State) (r : PerChannel Int) (push : Int) : conditionWinch (u.stageInput r) push =
    { target := (u.aimWinch push (u.channelRequest r .winch)).target
      setpoint := (u.aimWinch push (u.channelRequest r .winch)).setpoint
      flags := { hoist := u.hoistBlocked push (u.channelRequest r .winch) } } := by
  unfold conditionWinch State.aimWinch
  simp only [Bool.and_eq_true, decide_eq_true_eq, cutMagnitude_eq_heldWithin]
  rfl

/-! ## Forcing (R87, R88) -/

theorem channelForced_iff (u : State) (c : Channel) : u.channelForced c = true ↔
    u.governor ≠ .ready ∨ u.chan.mode.get c = .neutral ∨ u.chan.stopLine = .asserted ∨
      (u.chan.follow.get c).latch = true ∨ (c = .crowd ∧ u.chan.overloadLatch = true) := by
  simp only [State.channelForced, ChannelControl.forced, Bool.or_eq_true, Bool.and_eq_true, decide_eq_true_eq]
  tauto

theorem channelForced_of_invalid {u : State} (h : u.banks.activeValid = false) (c : Channel) :
    u.channelForced c = true := by
  rw [channelForced_iff]
  exact .inl fun hready => Bool.false_ne_true (h.symm.trans (activeValid_of_ready hready))

theorem runStages_sent (u : State) (r : PerChannel Int) (c : Channel) (h : u.channelForced c = true) :
    (runStages (u.stageInput r)).sent.get c = 0 := by
  cases c <;> exact if_pos h

theorem stageOutput_forced {u : State} (r : PerChannel Int) {c : Channel} (h : u.channelForced c = true) :
    (u.stageOutput r).sent.get c = 0 := by
  unfold State.stageOutput
  split
  · exact runStages_sent u r c h
  · exact const_get 0 c

theorem stageOutput_valid {u : State} (h : u.banks.activeValid = true) (r : PerChannel Int) :
    u.stageOutput r = runStages (u.stageInput r) := if_pos h

/-- FORCED stands exactly where some channel is forced (R87, R88). -/
theorem stageOutput_forced_flag (u : State) (r : PerChannel Int) :
    (u.stageOutput r).flags.forced = true ↔ ∃ c, u.channelForced c = true := by
  cases hv : u.banks.activeValid with
  | false =>
    rw [stageOutput_invalid hv]
    exact ⟨fun _ => ⟨.rotary, channelForced_of_invalid hv _⟩, fun _ => rfl⟩
  | true =>
    rw [stageOutput_valid hv]
    have hflag : (runStages (u.stageInput r)).flags.forced =
        (u.channelForced .rotary || u.channelForced .crowd || u.channelForced .winch) := by
      simp only [runStages, conditionRotary_eq, conditionCrowd_eq, conditionWinch_eq]
      rfl
    rw [hflag, Bool.or_eq_true, Bool.or_eq_true]
    constructor
    · rintro ((h | h) | h) <;> exact ⟨_, h⟩
    · rintro ⟨c, h⟩
      cases c with
      | rotary => exact .inl (.inl h)
      | crowd => exact .inl (.inr h)
      | winch => exact .inr h

/-- A request as the stages read it is the one the statements speak of (R71, R75). -/
theorem channelRequest_eq_requestOf (s : State) (data : List Byte) (c : Channel) :
    (s.handedOff data).channelRequest (commandRequests data) c = s.requestOf data c := by
  have hswap : ∀ lo hi x : Int, clamp x lo hi = max lo (min hi x) := fun lo hi x => by rw [clamp, min_comm]
  unfold State.channelRequest State.requestOf
  extract_lets limited
  have hlimited : (commandRequests data).get c = limited := by
    cases c with
    | rotary | crowd | winch => exact hswap _ _ _
  rw [handedOff_chan, handedOff_hold, hlimited]
  split
  case h_1 h hmode hhold => rw [if_pos hmode, hhold, Option.getD_some]
  case h_2 hnone =>
    split
    case isTrue hmode =>
      cases hhold : s.cond.hold.get c with
      | none => rfl
      | some h => exact absurd hhold (hnone h hmode)
    case isFalse => rfl

/-! ## The frame and its echo (R89) -/

/-- An echo is queued at the Cab Port in LOOPBACK alone. -/
theorem conditionCommand_cab (u : State) (r : PerChannel Int) (seq : Byte) : (u.conditionCommand r seq).cab =
    match u.chan.linkMode with
    | .normal => u.cab
    | .loopback => u.cab.queueOwn
        (ownFrame u.node .echo (setpointData (u.stageOutput r).sent (u.stageOutput r).flags seq)) := by
  have hstall := applyStall_frame u (u.stageOutput r)
  rw [conditionCommand_eq, (followFrame_frame _ _).2 .cab (by decide), State.conditioned, State.emitQueued,
    hstall.2 .chan (by decide)]
  cases u.chan.linkMode with
  | normal => exact hstall.2 .cab (by decide)
  | loopback =>
    change (State.queueCab _ _ _).cab = _
    rw [State.queueCab]
    change (State.cab _).queueOwn _ = _
    rw [hstall.2 .cab (by decide), hstall.2 .node (by decide)]

theorem zeroFrame_flags (i : Nat) (h : i < 7) : LimitFlags.zeroFrame.byte.getLsbD i = false := by
  revert i
  decide

/-- A channel whose setpoint is not its target is ramping, unless Stage 6 forces it (R85). -/
theorem ramping_iff (r : ChannelResult) (forced : Bool) :
    r.ramping forced = true ↔ forced ≠ true ∧ r.setpoint ≠ r.target := by
  rw [ChannelResult.ramping, Bool.and_eq_true, decide_eq_true_eq, Bool.not_eq_true', ← Bool.not_eq_true]

/-- ROTARY on its way, from the requests of a command (R77, R83, R84). -/
def State.rotaryAim (u : State) (r : PerChannel Int) : Aim := u.aimRotary u.envelopeNow (u.channelRequest r .rotary)

/-- CROWD on its way, under the ceiling that the stall latch leaves (R81, R83, R84). -/
def State.crowdAim (u : State) (r : PerChannel Int) (latch : Bool) : Aim :=
  u.aimCrowd (u.ceilingNow latch) (u.channelRequest r .crowd)

/-- WINCH on its way, with the crowd setpoint as Stage 4 leaves it (R86). -/
def State.winchAim (u : State) (r : PerChannel Int) (latch : Bool) : Aim :=
  u.aimWinch (u.crowdAim r latch).setpoint (u.channelRequest r .winch)

/-- A channel on its way, with the stall latch as Stage 2 leaves it. -/
def State.aimOf (u : State) (r : PerChannel Int) (latch : Bool) : Channel → Aim
  | .rotary => u.rotaryAim r
  | .crowd => u.crowdAim r latch
  | .winch => u.winchAim r latch

theorem stageOutput_sent {u : State} (hv : u.banks.activeValid = true) (r : PerChannel Int) (c : Channel) :
    (u.stageOutput r).sent.get c =
      if u.channelForced c then 0 else (u.aimOf r (u.stageOutput r).latch c).setpoint := by
  rw [stageOutput_valid hv]
  simp only [runStages, conditionRotary_eq, conditionCrowd_eq, conditionWinch_eq]
  cases c <;> rfl

/-- The flags of Stages 1 to 5, whichever their stages (R77, R82, R84, R86). -/
theorem union_stages_flags (rotary crowd : LimitFlags) (hoist ramp forced : Bool)
    (hrotary : rotary = { env := rotary.env, spdcap := rotary.spdcap })
    (hcrowd : crowd = { derate := crowd.derate, kelly := crowd.kelly, gate := crowd.gate }) :
    ((rotary.union crowd).union { hoist := hoist }).union { ramp := ramp, forced := forced } =
      { env := rotary.env, spdcap := rotary.spdcap, derate := crowd.derate, kelly := crowd.kelly, gate := crowd.gate
        ramp := ramp, hoist := hoist, forced := forced } := by
  rw [hrotary, hcrowd]
  simp [LimitFlags.union]

/-- The flags of ROTARY, for its request and its ramped value (R77, R84). -/
def rotaryPair (x ramped nlim : Int) (cap : Option Int) : LimitFlags :=
  (rotaryFlags x nlim cap).union (rotaryFlags ramped nlim cap)

/-- The flags of CROWD, for its request and its ramped value (R82, R84). -/
def crowdPair (x ramped fe d : Int) (gate latch : Bool) : LimitFlags :=
  (crowdFlags x fe d gate latch).union (crowdFlags ramped fe d gate latch)

theorem rotaryPair_env (x ramped nlim : Int) (cap : Option Int) :
    (rotaryPair x ramped nlim cap).env = true ↔ nlim < |x| ∨ nlim < |ramped| := by
  simp [rotaryPair, LimitFlags.union, rotaryFlags, magnitude_eq_abs]

theorem rotaryPair_spdcap (x ramped nlim : Int) (cap : Option Int) : (rotaryPair x ramped nlim cap).spdcap = true ↔
    ∃ c, cap = some c ∧ (c < |x| ∨ c < |ramped|) := by
  cases cap <;> simp [rotaryPair, LimitFlags.union, rotaryFlags, magnitude_eq_abs]

theorem crowdPair_kelly (x ramped fe d : Int) (gate latch : Bool) : (crowdPair x ramped fe d gate latch).kelly = true ↔
    (0 < x ∧ fe < x) ∨ (0 < ramped ∧ fe < ramped) := by
  simp [crowdPair, LimitFlags.union, crowdFlags]

theorem crowdPair_derate (x ramped fe d : Int) (gate latch : Bool) : (crowdPair x ramped fe d gate latch).derate = true ↔
    latch = true ∨ (((0 < x ∧ fe < x) ∨ (0 < ramped ∧ fe < ramped)) ∧ d < 256) := by
  simp only [crowdPair, LimitFlags.union, crowdFlags, Bool.or_eq_true, Bool.and_eq_true, decide_eq_true_eq]
  tauto

theorem crowdPair_gate (x ramped fe d : Int) (gate latch : Bool) : (crowdPair x ramped fe d gate latch).gate = true ↔
    gate = true ∧ (0 < x ∨ 0 < ramped) := by
  simp only [crowdPair, LimitFlags.union, crowdFlags, Bool.or_eq_true, Bool.and_eq_true, decide_eq_true_eq, and_or_left]

theorem stageOutput_flags {u : State} (hv : u.banks.activeValid = true) (r : PerChannel Int) :
    let latch := (u.stageOutput r).latch
    let rotary := rotaryPair (u.channelRequest r .rotary) (u.rotaryAim r).ramped u.envelopeNow u.capOf
    let crowd := crowdPair (u.channelRequest r .crowd) (u.crowdAim r latch).ramped u.pushNow u.derateNow
      (gateClosed u.bite.state) latch
    (u.stageOutput r).flags =
      { env := rotary.env, spdcap := rotary.spdcap, derate := crowd.derate, kelly := crowd.kelly, gate := crowd.gate
        ramp := (u.stageOutput r).flags.ramp
        hoist := u.hoistBlocked (u.crowdAim r latch).setpoint (u.channelRequest r .winch)
        forced := (u.stageOutput r).flags.forced } := by
  intro latch rotary crowd
  rw [← union_stages_flags rotary crowd _ _ _ (by simp [rotary, rotaryPair, LimitFlags.union, rotaryFlags])
    (by simp [crowd, crowdPair, LimitFlags.union, crowdFlags])]
  simp only [rotary, crowd, latch]
  rw [stageOutput_valid hv]
  simp only [runStages, conditionRotary_eq, conditionCrowd_eq, conditionWinch_eq]
  rfl

theorem stageOutput_ramp {u : State} (hv : u.banks.activeValid = true) (r : PerChannel Int) :
    (u.stageOutput r).flags.ramp = true ↔ ∃ c, ¬ u.channelForced c = true ∧
      (u.aimOf r (u.stageOutput r).latch c).setpoint ≠ (u.aimOf r (u.stageOutput r).latch c).target := by
  have hramp : (u.stageOutput r).flags.ramp =
      ((conditionRotary (u.stageInput r)).ramping (u.channelForced .rotary) ||
        (conditionCrowd (u.stageInput r) (u.stageOutput r).latch).ramping (u.channelForced .crowd) ||
        (conditionWinch (u.stageInput r) (conditionCrowd (u.stageInput r) (u.stageOutput r).latch).setpoint).ramping
          (u.channelForced .winch)) := by
    rw [stageOutput_valid hv]
    simp only [runStages, conditionRotary_eq, conditionCrowd_eq, conditionWinch_eq]
    rfl
  rw [hramp, Bool.or_eq_true, Bool.or_eq_true, ramping_iff, ramping_iff, ramping_iff, conditionRotary_eq,
    conditionCrowd_eq, conditionWinch_eq]
  constructor
  · rintro ((h | h) | h)
    · exact ⟨.rotary, h⟩
    · exact ⟨.crowd, h⟩
    · exact ⟨.winch, h⟩
  · rintro ⟨c, h⟩
    cases c with
    | rotary => exact .inl (.inl h)
    | crowd => exact .inl (.inr h)
    | winch => exact .inr h

/-- Settles O22: the stages and Stage 6 after the hand-off, whose readings they are, and the emission of what they form. -/
theorem forcingAndEmission : Obligations.ForcingAndEmission := by
  intro s data hd u forced
  have hchan : u.chan = s.chan := handedOff_chan s data
  have hnode : u.node = s.node := (handedOff_frame s data).2 .node (by decide)
  have hcond := command_cond s data (commandRequests data) (commandSeq data)
  have hforced : ∀ c, u.channelForced c = true ↔ forced c := fun c => by
    rw [channelForced_iff, hchan]
  have hsent : (u.conditionCommand (commandRequests data) (commandSeq data)).cond.prev =
      (u.stageOutput (commandRequests data)).sent := by
    rw [hcond]
  obtain ⟨h0, h1, h2, h3, h4, h5, h6, h7⟩ := flags_byte_bits (u.stageOutput (commandRequests data)).flags
  refine ⟨_, (u.stageOutput (commandRequests data)).flags.byte, exec_driveCommand hd, fun c hc => ?_, ?_, ?_,
    fun hv => ?_, fun hv => ?_, fun hnormal => ?_, fun hloopback => ?_⟩
  · rw [hsent, stageOutput_forced _ ((hforced c).2 hc)]
  · rw [hcond]
  · rw [h7, stageOutput_forced_flag]
    exact exists_congr hforced
  · rw [stageOutput_invalid hv]
    exact zeroFrame_flags
  · have htorque : u.signal.torque = s.signal.torque := by rw [(handedOff_frame s data).2 .signal (by decide)]
    rw [h0, h1, h2, h3, h4, h5, h6, hsent]
    have hlatch : (u.conditionCommand (commandRequests data) (commandSeq data)).cond.stallLatch =
        (u.stageOutput (commandRequests data)).latch := by rw [hcond]
    rw [hlatch]
    have hrequest := channelRequest_eq_requestOf s data
    obtain ⟨hclosed, hopen⟩ := ceilingNow_spec u (u.stageOutput (commandRequests data)).latch
    intro a nlim d fe r f w
    have hnlim : u.envelopeNow = nlim := congrArg (fun x => envelopeLimit u.activeBank |x|) htorque
    have hd : u.derateNow = d := congrArg (fun x => derateFactor u.activeBank |x|) htorque
    have hfe : u.pushNow = fe := congrArg (effectivePush u.pushLimit) hd
    have hflags := stageOutput_flags hv (commandRequests data)
    dsimp only at hflags
    refine ⟨u.ceilingNow (u.stageOutput (commandRequests data)).latch, hclosed, fun h => (hopen h).trans hfe, ?_⟩
    intro rotary crowd winch aim pushCut
    have hrotary : u.rotaryAim (commandRequests data) = rotary := by rw [State.rotaryAim, hnlim, hrequest]
    have hcrowd : u.crowdAim (commandRequests data) (u.stageOutput (commandRequests data)).latch = crowd := by
      rw [State.crowdAim, hrequest]
    have hwinch : u.winchAim (commandRequests data) (u.stageOutput (commandRequests data)).latch = winch := by
      rw [State.winchAim, hcrowd, hrequest]
    have haim : ∀ c, u.aimOf (commandRequests data) (u.stageOutput (commandRequests data)).latch c = aim c
      | .rotary => hrotary
      | .crowd => hcrowd
      | .winch => hwinch
    have hr : u.channelRequest (commandRequests data) .rotary = r := hrequest .rotary
    have hf : u.channelRequest (commandRequests data) .crowd = f := hrequest .crowd
    have hw : u.channelRequest (commandRequests data) .winch = w := hrequest .winch
    rw [hrotary, hcrowd, hnlim, hd, hfe, hr, hf, hw] at hflags
    refine ⟨fun c hc => ?_, ?_, ?_, ?_, ?_, ?_, ?_, ?_⟩
    · rw [stageOutput_sent hv, if_neg (fun h => hc ((hforced c).1 h)), haim]
    · rw [hflags]
      exact rotaryPair_env _ _ _ _
    · rw [hflags]
      exact rotaryPair_spdcap _ _ _ _
    · rw [hflags]
      exact crowdPair_derate _ _ _ _ _ _
    · rw [hflags]
      exact crowdPair_kelly _ _ _ _ _ _
    · rw [hflags, ← gateClosed_iff_gated]
      exact crowdPair_gate _ _ _ _ _ _
    · rw [stageOutput_ramp hv]
      exact exists_congr fun c => by rw [haim, hforced]
    · rw [hflags, ← hoistBlocked_iff]
  · rw [conditionCommand_drive, conditionCommand_cab, hsent, hchan, hnormal, hnode]
    exact ⟨by rw [(handedOff_frame s data).2 .drive (by decide)]; rfl, (handedOff_frame s data).2 .cab (by decide)⟩
  · rw [conditionCommand_drive, conditionCommand_cab, hsent, hchan, hloopback, hnode,
      (handedOff_frame s data).2 .drive (by decide), (handedOff_frame s data).2 .cab (by decide)]
    exact ⟨rfl, rfl⟩

end Sys2Proof.Machine
end

section
/-! Foreign frames (R8, R14, R15): what is forwarded, and what a frame that carries one sample comes to. -/

namespace Sys2Proof.Machine

/-! ## Forwarding (R8, R9) -/

theorem queueForwarded_full {p : Port} {places : Nat} (h : ¬ (p.state = .online ∧ p.forwardedHeld < places)) (f : Frame) :
    p.queueForwarded places f = { p with drops := addDrops p.drops 1 } := by
  unfold Port.queueForwarded
  split
  · rfl
  · rename_i hon
    exact if_neg fun hroom => h ⟨hon, hroom⟩

theorem queueForwarded_room {p : Port} {places : Nat} (hon : p.state = .online) (h : p.forwardedHeld < places) (f : Frame) :
    p.queueForwarded places f = Port.offerNext { p with waiting := p.waiting ++ [{ kind := .forwarded, frame := f }] } := by
  unfold Port.queueForwarded
  rw [hon]
  exact if_pos h

theorem offerNext_offered {p : Port} (h : p.offer ≠ none) : p.offerNext = p := by
  obtain ⟨q, hq⟩ := Option.ne_none_iff_exists'.1 h
  simp [Port.offerNext, hq]

theorem queueForwarded_offered {p : Port} {places : Nat} (hon : p.state = .online) (h : p.forwardedHeld < places)
    (hoffer : p.offer ≠ none) (f : Frame) :
    p.queueForwarded places f = { p with waiting := p.waiting ++ [{ kind := .forwarded, frame := f }] } := by
  rw [queueForwarded_room hon h]
  exact offerNext_offered hoffer

theorem queueForwarded_forwardedTo (p : Port) (places : Nat) (f : Frame) :
    forwardedTo places p (p.queueForwarded places f) f := by
  have hheld : p.forwardedHeld = (p.held.filter (fun q => decide (q.kind = .forwarded))).length :=
    List.countP_eq_length_filter
  refine ⟨queueForwarded_state p places f, fun ⟨hon, hroom⟩ => ?_, fun hfull => queueForwarded_full (hheld ▸ hfull) f⟩
  have hqueue := queueForwarded_room hon (hheld ▸ hroom) f
  rw [hqueue]
  exact ⟨offerNext_drops _, fun hoffer => by rw [← hqueue, queueForwarded_offered hon (hheld ▸ hroom) hoffer]; exact ⟨rfl, rfl⟩,
    fun hnone => offerNext_lowest (p := { p with waiting := p.waiting ++ [{ kind := .forwarded, frame := f }] }) hon hnone
      (by simp)⟩

/-- The forwarded places of the port a frame goes to (Table 1-1). -/
theorem forward_forwardedTo (s : State) (port : PortId) (f : Frame) :
    forwardedTo (if port = .cab then 7 else 4) (s.port (otherPort port)) ((s.forward port f).port (otherPort port)) f := by
  rw [State.forward, withPort_port_self]
  cases port <;> exact queueForwarded_forwardedTo _ _ f

theorem forward_frame_other (s : State) (port : PortId) (f : Frame) :
    unchangedExcept [if port = .cab then .drive else .cab] s (s.forward port f) := by
  cases port <;> exact forward_frame s _ f

/-! ## The entry that matches (R13, R14) -/

/-- In a table free of clashes the entry that matches is the one that there is. -/
theorem matchRoute_of_entry {s : State} (hs : routesOk s) {k : Fin 32} (h : s.routes[k].cls ≠ .empty) :
    s.matchRoute s.routes[k].port s.routes[k].ident = some s.routes[k] := by
  unfold State.matchRoute
  cases hfind : (routeIds.map fun k => s.routes[k]).find? fun e => decide (e.cls ≠ .empty) &&
      decide (e.port = s.routes[k].port) && decide (e.ident = s.routes[k].ident) with
  | none =>
    have hk := List.find?_eq_none.1 hfind s.routes[k] (List.mem_map.2 ⟨k, by simp [routeIds], rfl⟩)
    exact absurd h (by simpa using hk)
  | some e =>
    obtain ⟨j, -, rfl⟩ := List.mem_map.1 (List.mem_of_find?_eq_some hfind)
    have hj := List.find?_some hfind
    simp only [Bool.and_eq_true, decide_eq_true_eq] at hj
    by_cases hjk : j = k
    · rw [hjk]
    · exact absurd ⟨hj.1.2, hj.2⟩ (hs j k hjk hj.1.1 h)

theorem matchRoute_none {s : State} {port : PortId} {id : Ident}
    (h : ∀ k : Fin 32, s.routes[k].cls = .empty ∨ s.routes[k].port ≠ port ∨ s.routes[k].ident ≠ id) :
    s.matchRoute port id = none := by
  refine List.find?_eq_none.2 fun e he => ?_
  obtain ⟨k, -, rfl⟩ := List.mem_map.1 he
  simp only [Bool.and_eq_true, decide_eq_true_eq, not_and]
  rintro ⟨hcls, hport⟩ hident
  rcases h k with h | h | h
  · exact hcls h
  · exact h hport
  · exact h hident

/-- A foreign frame is looked up (R3). -/
theorem exec_foreign {s : State} {id : Ident} (h : isOwnIdent s.node id = false) (port : PortId) (data : List Byte) :
    exec (.frameArrival port id data) s = .next (s.routeFrame port { ident := id, data := data }) := by
  simp only [isOwnIdent, Bool.or_eq_false_iff, decide_eq_false_iff_not] at h
  obtain ⟨⟨hcommand, hmanager⟩, houtput⟩ := h
  change Host.Outcome.next (s.arrive port _) = _
  unfold State.arrive
  rw [if_neg hcommand]
  cases hm : managerOfIdent s.node id with
  | some m =>
    rw [hm] at hmanager
    exact nomatch hmanager
  | none => exact congrArg _ (if_neg (by simp [houtput]))

theorem routeFrame_none {s : State} {port : PortId} {f : Frame} (h : s.matchRoute port f.ident = none) :
    s.routeFrame port f = s.forward port f := by
  unfold State.routeFrame
  rw [h]

theorem routeFrame_pass {s : State} {port : PortId} {f : Frame} {e : RouteEntry}
    (h : s.matchRoute port f.ident = some e) (hcls : e.cls = .pass) : s.routeFrame port f = s.forward port f := by
  unfold State.routeFrame
  rw [h]
  dsimp only
  rw [hcls]

theorem routeFrame_block {s : State} {port : PortId} {f : Frame} {e : RouteEntry}
    (h : s.matchRoute port f.ident = some e) (hcls : e.cls = .block) : s.routeFrame port f = s := by
  unfold State.routeFrame
  rw [h]
  dsimp only
  rw [hcls]

theorem routeFrame_sample {s : State} {port : PortId} {f : Frame} {e : RouteEntry}
    (h : s.matchRoute port f.ident = some e) (hcls : e.cls = .sample) :
    s.routeFrame port f = (s.takeSamples e f.data).forward port f := by
  unfold State.routeFrame
  rw [h]
  dsimp only
  rw [hcls]

/-- Settles O7: the Routing Table's one entry for a foreign frame, if there is one, and the port it is forwarded to. -/
theorem foreignFramesAreForwardedOrBlocked : Obligations.ForeignFramesAreForwardedOrBlocked := by
  intro s port id data hs hforeign
  rw [exec_foreign hforeign]
  refine ⟨?_, fun hpass => ⟨_, congrArg _ (?_ : _ = s.forward port _), forward_frame_other s port _,
    forward_forwardedTo s port _⟩⟩
  · rintro ⟨k, hcls, rfl, rfl⟩
    rw [routeFrame_block (matchRoute_of_entry hs (by rw [hcls]; decide)) hcls]
  · rcases hpass with hnone | ⟨k, hcls, rfl, rfl⟩
    · exact routeFrame_none (matchRoute_none hnone)
    · exact routeFrame_pass (matchRoute_of_entry hs (by rw [hcls]; decide)) hcls

/-! ## A frame that carries samples (R15) -/

theorem takeMapping_unused {x : Mapping} (h : x.used = false) (data : List Byte) (s : State) : s.takeMapping data x = s := by
  rw [State.takeMapping, h]
  rfl

theorem takeMapping_short {x : Mapping} {data : List Byte} (hused : x.used = true) (h : data.length ≤ x.offset.val + 1)
    (s : State) : s.takeMapping data x = s.record .badSample := by
  rw [State.takeMapping, hused]
  exact if_pos h

theorem takeMapping_fits {x : Mapping} {data : List Byte} (hused : x.used = true) (h : x.offset.val + 1 < data.length)
    (s : State) : s.takeMapping data x = s.takeSample x.slot (x.value data) := by
  rw [State.takeMapping, hused]
  exact if_neg (not_le.2 h)

theorem takeMapping_taken (data : List Byte) (x : Mapping) (s : State) : mappingTaken data x s (s.takeMapping data x) :=
  ⟨fun h => takeMapping_unused h data s, fun hused h => takeMapping_short hused h s, fun hused h => takeMapping_fits hused h s⟩

/-- A frame whose entry has one used mapping, which fits, comes to one sample, and is then forwarded. -/
theorem exec_carriesSample {s : State} {port : PortId} {id : Ident} {data : List Byte} {i : SlotId} {v : Int}
    (h : carriesSample s port id data i v) : exec (.frameArrival port id data) s =
      .next ((s.takeSample i v).forward port { ident := id, data := data }) := by
  obtain ⟨hforeign, e, p, hmatch, hcls, hused, rfl, hfits, rfl⟩ := h
  have hother : ∀ q : Fin 4, q ≠ p → ∀ u : State, u.takeMapping data e.maps[q] = u := fun q hq =>
    takeMapping_unused (Bool.eq_false_iff.2 fun hu => hq ((hused q).1 hu)) data
  have hmine : ∀ u : State, u.takeMapping data e.maps[p] = u.takeSample e.maps[p].slot (e.maps[p].value data) :=
    takeMapping_fits ((hused p).2 rfl) hfits
  have htaken : s.takeSamples e data = s.takeMapping data e.maps[p] := by
    change (((s.takeMapping data e.maps[(0 : Fin 4)]).takeMapping data e.maps[(1 : Fin 4)]).takeMapping data
      e.maps[(2 : Fin 4)]).takeMapping data e.maps[(3 : Fin 4)] = _
    fin_cases p
    · rw [hother 3 (by decide), hother 2 (by decide), hother 1 (by decide)]
      rfl
    · rw [hother 3 (by decide), hother 2 (by decide), hother 0 (by decide)]
      rfl
    · rw [hother 3 (by decide), hother 1 (by decide), hother 0 (by decide)]
      rfl
    · rw [hother 2 (by decide), hother 1 (by decide), hother 0 (by decide)]
      rfl
  rw [exec_foreign hforeign, routeFrame_sample hmatch hcls, ← hmine, ← htaken]

end Sys2Proof.Machine
end

section
/-! A sample taken (R15, R18 to R22): the record of its slot, the slot event, and the reports. -/

namespace Sys2Proof.Machine

theorem trackerChanged_same (m : MapItems) (t : Tracker) : trackerChanged m t t = false := by
  simp [trackerChanged]

/-- The tracker and the engine take a slot event (R30). -/
def State.trackedAndBitten (s : State) (i : SlotId) : State :=
  (s.trackerSlotEvent i).biteSlotEvent i (trackerChanged s.kelly.items s.tracker (s.trackerSlotEvent i).tracker)

theorem slotEvent_crowd (s : State) {i : SlotId} (h : i = 3 ∨ i = 4) : s.slotEvent i = (s.trackedAndBitten i).overloadTest :=
  if_pos h

theorem slotEvent_other (s : State) {i : SlotId} (h : ¬ (i = 3 ∨ i = 4)) : s.slotEvent i = s.trackedAndBitten i := if_neg h

/-- A slot that the tracker does not read changes no tracker. -/
theorem trackedAndBitten_untracked (s : State) {i : SlotId} (h : s.trackerSlotEvent i = s) :
    s.trackedAndBitten i = s.biteSlotEvent i false := by
  rw [State.trackedAndBitten, h, trackerChanged_same]

/-- ROTSPD has no reader (Table 2-3). -/
theorem deliverSlot_zero (s : State) : s.deliverSlot 0 = s := by
  change s.slotEvent 0 = s
  rw [slotEvent_other s (by decide), trackedAndBitten_untracked s rfl]
  rfl

theorem slot_storeSlot (s : State) (i j : SlotId) (r : Slot) :
    (s.storeSlot i r).signal.slot j = if j = i then r else s.signal.slot j := by
  rw [storeSlot_signal, slot_withSlot]

theorem slot_takeSample (s : State) (i j : SlotId) (v : Int) : (s.takeSample i v).signal.slot j =
    if j = i then (s.signal.slot i).sampled i v else s.signal.slot j := by
  rw [State.takeSample, slot_deliverSlot, slot_storeSlot]

/-- A sample outside the range, with the detector on, takes its slot LOST by RANGE (R19). -/
theorem sampled_refused {i : SlotId} {v : Int} {r : Slot} (h : outsideRange i (inSlotUnit i v) r.cfg = true ∧ r.cfg.rngEn = true) :
    r.sampled i v =
      { r with raw := inSlotUnit i v, rangeCond := true, timer := .running r.cfg.lossTime, lostAbsence := false
               lostRange := true, state := .lost } := by
  unfold Slot.sampled
  simp only [h.1, h.2, Bool.and_self, if_true]

/-- Any other sample makes its slot FRESH with the held value (R19). -/
theorem sampled_accepted {i : SlotId} {v : Int} {r : Slot}
    (h : ¬ (outsideRange i (inSlotUnit i v) r.cfg = true ∧ r.cfg.rngEn = true)) :
    r.sampled i v =
      { r with raw := inSlotUnit i v, rangeCond := outsideRange i (inSlotUnit i v) r.cfg
               timer := .running r.cfg.lossTime, lostAbsence := false, lostRange := false, state := .fresh
               held := limitPlausible i (inSlotUnit i v) } := by
  unfold Slot.sampled
  dsimp only
  rw [if_neg (by simpa using h)]

/-- The slot takes a record that keeps or leaves its state without entering LOST: no report (R21). -/
theorem storeSlot_silent {s : State} {i : SlotId} {r : Slot} (h : ¬ (r.state = .lost ∧ (s.signal.slot i).state ≠ .lost)) :
    s.storeSlot i r = s.withSignal (s.signal.withSlot i r) := if_neg h

theorem storeSlot_reported {s : State} {i : SlotId} {r : Slot} (h : r.state = .lost ∧ (s.signal.slot i).state ≠ .lost) :
    s.storeSlot i r = (s.withSignal (s.signal.withSlot i r)).record (.slotLost i) := if_pos h

/-- An entry to LOST is held after the slot event, where no reader reports or the queue has room (R21, R160). -/
theorem deliver_lost_holds {s : State} {i : SlotId} {r : Slot} (h : r.state = .lost ∧ (s.signal.slot i).state ≠ .lost)
    (hroom : i = 0 ∨ s.faults.queue.length ≤ 13) :
    ((s.storeSlot i r).deliverSlot i).faults.holds (.slotLost i) = true := by
  have hheld : (s.storeSlot i r).faults.holds (.slotLost i) = true := by
    rw [storeSlot_reported h]
    exact record_holds _ _
  rcases hroom with rfl | hroom
  · rw [deliverSlot_zero]
    exact hheld
  · have hlength := (storeSlot_noted s i r).length_le
    exact (deliverSlot_noted _ i).holds_of_room (by omega) hheld

theorem outsideRange_eq (i : SlotId) (raw : Int) (c : SlotConfig) :
    outsideRange i raw c = decide (raw < inSlotUnit i c.rmin ∨ inSlotUnit i c.rmax < raw) := by
  rw [outsideRange, Bool.decide_or]

theorem forward_of_frame {l : List Block} {s t : State} (h : unchangedExcept l s t) (hcab : Block.cab ∉ l)
    (hdrive : Block.drive ∉ l) (port : PortId) (f : Frame) :
    forwardedTo (if port = .cab then 7 else 4) (s.port (otherPort port)) ((t.forward port f).port (otherPort port)) f ∧
    unchangedExcept (l ++ [if port = .cab then .drive else .cab]) s (t.forward port f) := by
  have hport : t.port (otherPort port) = s.port (otherPort port) := by
    cases port
    · exact h.2 .drive hdrive
    · exact h.2 .cab hcab
  refine ⟨?_, unchangedExcept_comp h (forward_frame_other t port f) (by simp) (by simp)⟩
  rw [← hport]
  exact forward_forwardedTo t port f

/-- What the forwarding after a sample leaves as the sample left it: every block but the other port (R8). -/
theorem forward_keeps (s : State) (port : PortId) (f : Frame) {b : Block} (hcab : b ≠ .cab) (hdrive : b ≠ .drive) :
    sameBlock s (s.forward port f) b :=
  (forward_frame_other s port f).2 b (by cases port <;> simpa)

theorem sampled_lost_iff (i : SlotId) (v : Int) (r : Slot) : (r.sampled i v).state = .lost ↔
    outsideRange i (inSlotUnit i v) r.cfg = true ∧ r.cfg.rngEn = true := by
  by_cases h : outsideRange i (inSlotUnit i v) r.cfg = true ∧ r.cfg.rngEn = true
  · rw [sampled_refused h]
    exact ⟨fun _ => h, fun _ => rfl⟩
  · rw [sampled_accepted h]
    exact ⟨(fun hl => nomatch hl), fun hl => absurd hl h⟩

theorem takeSample_zero (s : State) (v : Int) :
    s.takeSample 0 v = s.storeSlot 0 ((s.signal.slot 0).sampled 0 v) := deliverSlot_zero _

/-- The state after the first k positions of a SAMPLE entry (R15). -/
def State.samplesThrough (s : State) (e : RouteEntry) (data : List Byte) (k : Fin 5) : State :=
  ([e.maps[0], e.maps[1], e.maps[2], e.maps[3]].take k.val).foldl (State.takeMapping data) s

theorem samplesThrough_taken (s : State) (e : RouteEntry) (data : List Byte) (p : Fin 4) :
    mappingTaken data e.maps[p] (s.samplesThrough e data p.castSucc) (s.samplesThrough e data p.succ) := by
  fin_cases p <;> exact takeMapping_taken data _ _

/-- Settles O8: the value of a mapping, the slot's record with its report, and the mappings in order. -/
theorem sampleUpdatesItsSlot : Obligations.SampleUpdatesItsSlot := by
  refine ⟨fun x data => rfl, fun s port id data i v hcarries => ?_, fun s port id data e hforeign hmatch hcls => ?_⟩
  · obtain ⟨hforwarded, hframe⟩ := forward_of_frame (takeSample_frame s i v) (by decide) (by decide) port
      { ident := id, data := data }
    have hsignal := forward_keeps (s.takeSample i v) port { ident := id, data := data } (b := .signal) (by decide) (by decide)
    have hfaults := forward_keeps (s.takeSample i v) port { ident := id, data := data } (b := .faults) (by decide) (by decide)
    refine ⟨_, exec_carriesSample hcarries, fun j hj => ?_, ?_, hforwarded, hframe, fun hi => ?_⟩
    · rw [hsignal, slot_takeSample, if_neg hj]
    · intro before raw low high outside
      have houtside : outsideRange i (inSlotUnit i v) before.cfg = outside := outsideRange_eq _ _ _
      rw [hsignal, hfaults, slot_takeSample, if_pos rfl]
      refine ⟨fun h => sampled_refused (houtside ▸ h), fun h => ?_, fun h hbefore hroom => ?_, fun h hi => ?_⟩
      · rw [sampled_accepted (houtside ▸ h), houtside]
        rfl
      · exact deliver_lost_holds ⟨(sampled_lost_iff i v before).2 (houtside ▸ h), hbefore⟩ hroom
      · subst hi
        rw [takeSample_zero, storeSlot_silent]
        · rfl
        · rw [sampled_lost_iff, and_assoc, houtside]
          exact h
    · subst hi
      have hstored := takeSample_zero s v ▸ storeSlot_frame s 0 _
      exact (forward_of_frame hstored (by decide) (by decide) port _).2
  · refine ⟨s.samplesThrough e data, rfl, samplesThrough_taken s e data, ?_⟩
    rw [exec_foreign hforeign, routeFrame_sample hmatch hcls]
    rfl

end Sys2Proof.Machine
end

section
/-! Accepted samples (R19): the readings they leave, and the kelly overload monitor (R107, R108). -/

namespace Sys2Proof.Machine

section
variable {s : State} {i : SlotId} {v : Int}

/-- The state with the record of a sample of slot i stored, its slot event still to come (R18, R19). -/
def State.stored (s : State) (i : SlotId) (v : Int) : State :=
  s.withSignal (s.signal.withSlot i ((s.signal.slot i).sampled i v))

theorem stored_frame (s : State) (i : SlotId) (v : Int) : unchangedExcept [.signal] s (s.stored i v) := withSignal_frame s _

theorem not_refused_of_accepts {c : SlotConfig} (h : acceptsSample i v c) :
    ¬ (outsideRange i (inSlotUnit i v) c = true ∧ c.rngEn = true) := by
  rintro ⟨hout, hen⟩
  rcases h with h | h
  · exact Bool.false_ne_true (h.symm.trans hout)
  · exact Bool.false_ne_true (h.symm.trans hen)

theorem takeSample_accepted (h : acceptsSample i v (s.signal.slot i).cfg) : s.takeSample i v = (s.stored i v).deliverSlot i := by
  rw [State.takeSample, storeSlot_silent, State.stored]
  rw [sampled_lost_iff]
  exact fun hlost => not_refused_of_accepts h hlost.1

theorem stored_slot (s : State) (i j : SlotId) (v : Int) : (s.stored i v).signal.slot j =
    if j = i then (s.signal.slot i).sampled i v else s.signal.slot j := slot_withSlot _ _ _ _

theorem stored_fresh (h : acceptsSample i v (s.signal.slot i).cfg) : ((s.stored i v).signal.slot i).state = .fresh := by
  rw [stored_slot, if_pos rfl, sampled_accepted (not_refused_of_accepts h)]

/-- An accepted sample is the effective value of its slot (R22). -/
theorem stored_effective (h : acceptsSample i v (s.signal.slot i).cfg) (j : SlotId) :
    (s.stored i v).effective j = effectiveWith s i v j := by
  rw [State.stored, effective_withSlot, effectiveWith, sampled_accepted (not_refused_of_accepts h)]
  rfl

theorem stored_torque (h : acceptsSample i v (s.signal.slot i).cfg) : (s.stored i v).torqueNow = torqueWith s i v := by
  rw [State.torqueNow, stored_effective h, stored_effective h]
  rfl

theorem stored_crowd (h : acceptsSample i v (s.signal.slot i).cfg) : (s.stored i v).crowdNow = crowdWith s i v := by
  rw [State.crowdNow, stored_effective h, stored_effective h]
  rfl

theorem stored_extension (h : acceptsSample i v (s.signal.slot i).cfg) :
    (s.stored i v).extensionNow = extensionWith s i v := by
  rw [State.extensionNow, stored_effective h, stored_effective h]
  rfl

end

/-! ## The overload monitor (R107, R108) -/

section
variable {s : State}

theorem overloadTest_quiet (h : s.banks.activeValid = false ∨ s.chan.overloadLatch = true ∨
    ¬ (s.tracker.mode = .tracking ∧ s.pushLimit < s.signal.crowd)) : s.overloadTest = s.withOverloadCount 0 := by
  unfold State.overloadTest
  split
  · rfl
  · rename_i hon
    simp only [Bool.or_eq_true, Bool.not_eq_true', not_or] at hon
    rw [if_neg]
    rcases h with h | h | h
    · exact absurd h hon.1
    · exact absurd h hon.2
    · exact h

theorem overloadTest_event (hv : s.banks.activeValid = true) (hl : s.chan.overloadLatch = false)
    (h : s.tracker.mode = .tracking ∧ s.pushLimit < s.signal.crowd) : s.overloadTest =
      if overloadLimit s.activeBank ≤ (s.chan.overloadCount + 1 : Int) then
        (s.withChan { s.chan with overloadLatch := true, overloadCount := 0 }).record .kellyOverload
      else s.withOverloadCount (s.chan.overloadCount + 1) := by
  unfold State.overloadTest
  rw [if_neg (by simp [hv, hl]), if_pos h]

end

/-- A crowd pressure reaches the peak of an open bite, and then the monitor (R29, R30, R127). -/
theorem takeSample_crowd {s : State} {i : SlotId} {v : Int} (hi : i = 3 ∨ i = 4)
    (haccepts : acceptsSample i v (s.signal.slot i).cfg) :
    s.takeSample i v = (s.stored i v).refreshCrowd.bitePeakPush.overloadTest := by
  have huntracked : (s.stored i v).refreshCrowd.trackerSlotEvent i = (s.stored i v).refreshCrowd := by
    rcases hi with rfl | rfl <;> rfl
  have hrefreshed : (s.stored i v).refreshDerived i = (s.stored i v).refreshCrowd := by
    rcases hi with rfl | rfl <;> rfl
  rw [takeSample_accepted haccepts, State.deliverSlot, hrefreshed, slotEvent_crowd _ hi, trackedAndBitten_untracked _ huntracked]
  rcases hi with rfl | rfl <;> rfl

/-- Settles O26: an accepted crowd pressure changes Fm, then the peak of an open bite, then the monitor. -/
theorem overloadCountsAndLatches : Obligations.OverloadCountsAndLatches := by
  intro s port id data i v hcarries hi haccepts fm exceeds
  let w := (s.stored i v).refreshCrowd.bitePeakPush
  have hcrowd : w.signal.crowd = fm := stored_crowd haccepts
  have hpush : w.pushLimit = s.pushLimit := rfl
  have htaken : exec (.frameArrival port id data) s = .next (w.overloadTest.forward port { ident := id, data := data }) := by
    rw [exec_carriesSample hcarries, takeSample_crowd hi haccepts]
  have hframe : unchangedExcept [.signal, .bite, .chan, .faults] s w.overloadTest :=
    unchangedExcept_comp (unchangedExcept_comp (n := [.signal, .bite]) (unchangedExcept_comp (n := [.signal])
      (stored_frame s i v) (withSignal_frame _ _) (by decide) (by decide)) (withBite_frame _ _) (by decide) (by decide))
      (overloadTest_frame w) (by decide) (by decide)
  have hkept : ∀ {b : Block}, b ≠ .cab → b ≠ .drive → sameBlock w.overloadTest
      (w.overloadTest.forward port { ident := id, data := data }) b := fun hc hd => forward_keeps _ port _ hc hd
  have hsignal := (overloadTest_frame w).2 .signal (by decide)
  have hbite := (overloadTest_frame w).2 .bite (by decide)
  have hexceeds : exceeds ↔ w.tracker.mode = .tracking ∧ w.pushLimit < w.signal.crowd := by
    rw [hcrowd, hpush]
    exact Iff.rfl
  refine ⟨_, htaken, (forward_of_frame hframe (by decide) (by decide) port _).2, ?_, ?_, ?_, fun h => ?_,
    fun hv hl h => ⟨fun hcount => ?_, fun hcount => ?_⟩⟩
  · rw [hkept (b := .signal) (by decide) (by decide), hsignal, hcrowd]
  · rw [hkept (b := .signal) (by decide) (by decide), hsignal]
    rfl
  · have hpeak : w.bite = { s.bite with
        ctx := s.bite.ctx.map (fun x => { x with peakPush := min (max x.peakPush w.signal.crowd) 10000 }) } := rfl
    rw [hkept (b := .bite) (by decide) (by decide), hbite, hpeak, hcrowd]
  · rw [hkept (b := .chan) (by decide) (by decide), hkept (b := .faults) (by decide) (by decide)]
    rw [overloadTest_quiet (s := w) (h.imp_right (Or.imp_right (mt hexceeds.2)))]
    exact ⟨rfl, rfl⟩
  · rw [hkept (b := .chan) (by decide) (by decide), hkept (b := .faults) (by decide) (by decide)]
    rw [(overloadTest_event (s := w) hv hl (hexceeds.1 h)).trans (if_pos hcount)]
    exact ⟨rfl, record_holds _ _⟩
  · rw [hkept (b := .chan) (by decide) (by decide), hkept (b := .faults) (by decide) (by decide)]
    rw [(overloadTest_event (s := w) hv hl (hexceeds.1 h)).trans (if_neg (not_le.2 hcount))]
    exact ⟨rfl, rfl⟩

end Sys2Proof.Machine
end

section
/-! The position update (R50 to R57) on a sample of a position slot. -/

namespace Sys2Proof.Machine

/-! ## The tests of a position update -/

section
variable {u : State}

theorem positionTests_stale (h : u.positionStale = true) :
    u.positionTests = if u.tracker.mode = .tracking then u.trackerLose .sensor else u := by
  by_cases hunmapped : u.tracker.mode = .unmapped
  · rw [State.positionTests, if_pos hunmapped, if_neg (by rw [hunmapped]; decide)]
  · rw [State.positionTests, if_neg hunmapped, if_pos h]

variable (hfresh : u.positionStale = false)
include hfresh

theorem positionTests_nested (hmode : u.tracker.mode ≠ .unmapped) (h : |u.tracker.xm| ≤ nestWindow u.kelly.items) :
    u.positionTests = u.withTracker (u.tracker.resync u.kelly.items) := by
  rw [State.positionTests, if_neg hmode, if_neg (by rw [hfresh]; decide), if_pos (by rwa [magnitude_eq_abs])]

theorem positionTests_waits (h : nestWindow u.kelly.items < |u.tracker.xm|) (hmode : u.tracker.mode ≠ .tracking) :
    u.positionTests = u := by
  by_cases hunmapped : u.tracker.mode = .unmapped
  · rw [State.positionTests, if_pos hunmapped]
  · rw [State.positionTests, if_neg hunmapped, if_neg (by rw [hfresh]; decide),
      if_neg (by rw [magnitude_eq_abs]; exact not_le.2 h), if_pos hmode]

theorem positionTests_outside (hmode : u.tracker.mode = .tracking) (h : nestWindow u.kelly.items < |u.tracker.xm|) :
    u.positionTests =
      if u.tracker.xm < -nestWindow u.kelly.items then u.trackerLose .underRun
      else if |u.tracker.xm - u.tracker.xt| ≤ deadband u.kelly.items then u
      else u.trackerDistribute (u.tracker.xm - u.tracker.xt) := by
  rw [State.positionTests, if_neg (by rw [hmode]; decide), if_neg (by rw [hfresh]; decide),
    if_neg (by rw [magnitude_eq_abs]; exact not_le.2 h), if_neg (not_not.2 hmode), magnitude_eq_abs]

end

theorem trackerDistribute_whole {s : State} {d : Int} (h : (distribute s.kelly.items d s.tracker.junctions).1 = 0) :
    s.trackerDistribute d = s.withTracker (s.tracker.withJunctions s.kelly.items
      (distribute s.kelly.items d s.tracker.junctions).2) := if_pos h

theorem trackerDistribute_rest {s : State} {d : Int} (h : (distribute s.kelly.items d s.tracker.junctions).1 ≠ 0) :
    s.trackerDistribute d = s.trackerLose (if 0 < d then .overExtend else .underRun) := if_neg h

/-! ## The walk's whole (R49, R55, R56) -/

theorem trackedExtension_total {m : MapItems} {js : Vector Junction 5}
    (h : ∀ k, ¬ junctionInUse m k = true → js[k].ext = 0) :
    trackedExtension m js = js[0].ext + js[1].ext + js[2].ext + js[3].ext + js[4].ext := by
  have heach : ∀ k : Fin 5, (if junctionInUse m k = true then js[k].ext else 0) = js[k].ext := fun k => by
    split
    · rfl
    · rename_i hk
      exact (h k hk).symm
  rw [trackedExtension_eq, List.map_congr_left fun k _ => heach k]
  simp only [junctionIds, List.map_cons, List.map_nil, List.sum_cons, List.sum_nil, Fin.getElem_fin]
  norm_num
  ring

/-- A walk that leaves nothing over changes the tracked extension by the whole difference. -/
theorem trackedExtension_distribute {k : KellyMap} {t : Tracker} (ht : tracksMap k t) (hmode : t.mode ≠ .unmapped) {d : Int}
    (hrest : (distribute k.items d t.junctions).1 = 0) :
    trackedExtension k.items (distribute k.items d t.junctions).2 = t.xt + d := by
  have hunused : ∀ i, ¬ junctionInUse k.items i = true → t.junctions[i].ext = 0 := fun i hi => by
    have hrecord := tracksMap_records ht hmode i
    rw [if_neg hi] at hrecord
    rw [hrecord]
    rfl
  obtain ⟨hpassed, -, -, -, -, hup, hdown, -⟩ := walkInnermostFirst k.items d t.junctions fun i hi =>
    withinTravel_of_tracks ht hmode i hi
  have hxt : t.xt = trackedExtension k.items t.junctions := ht.2.2.2.2
  rw [hxt, trackedExtension_total hunused, trackedExtension_total fun i hi => by
    rw [hpassed i fun hfree => hi hfree.1]
    exact hunused i hi]
  rcases lt_or_ge 0 d with hd | hd
  · have htotal := hup hd
    dsimp only at htotal
    omega
  · have htotal := hdown hd
    dsimp only at htotal
    omega

/-! ## A sample of a position slot (R29, R30, R50) -/

/-- The tracker after a position slot event takes Xm first (R50). -/
theorem deliverSlot_position {i : SlotId} (hi : i = 5 ∨ i = 6) (u : State) :
    u.deliverSlot i = u.positionUpdate.biteSlotEvent i (trackerChanged u.kelly.items u.tracker u.positionUpdate.tracker) := by
  rcases hi with rfl | rfl <;> rfl

theorem deliverSlot_position_tracker {i : SlotId} (hi : i = 5 ∨ i = 6) (u : State) :
    (u.deliverSlot i).tracker = u.positionUpdate.tracker := by
  rw [deliverSlot_position hi, (biteSlotEvent_frame _ _ _).2 .tracker (by decide)]

/-- With no switch pending, the engine's part of a slot event reports nothing (R126). -/
theorem biteSlotEvent_faults {u : State} (h : u.banks.pendingSwitch = false) (i : SlotId) (c : Bool) :
    (u.biteSlotEvent i c).faults = u.faults :=
  (bankWork_of_no_pending (biteSlotEvent_bankWork u i c) h).2.2

theorem trackerLose_holds (s : State) (c : LossCause) : (s.trackerLose c).faults.holds .trackLost = true :=
  record_holds _ _

/-- A tracker that a position update takes LOST is reported (R57). -/
theorem positionTests_lost {u : State} (hmode : u.tracker.mode = .tracking) (h : u.positionTests.tracker.mode = .lost) :
    u.positionTests.faults.holds .trackLost = true := by
  have hnot : ∀ t : State, t.tracker.mode = .tracking → ¬ t.tracker.mode = .lost := fun t ht hl => by
    rw [ht] at hl
    cases hl
  by_cases hstale : u.positionStale = true
  · rw [positionTests_stale hstale, if_pos hmode]
    exact trackerLose_holds u _
  have hfresh : u.positionStale = false := by simpa using hstale
  rcases le_or_gt |u.tracker.xm| (nestWindow u.kelly.items) with hin | hout
  · rw [positionTests_nested hfresh (by rw [hmode]; decide) hin] at h
    exact nomatch h
  rw [positionTests_outside hfresh hmode hout] at h ⊢
  split at h
  · rename_i hbelow
    rw [if_pos hbelow]
    exact trackerLose_holds u _
  · rename_i hbelow
    rw [if_neg hbelow]
    split at h
    · exact absurd h (hnot u hmode)
    · rename_i hmoved
      rw [if_neg hmoved]
      unfold State.trackerDistribute at h ⊢
      dsimp only at h ⊢
      split at h
      · exact absurd h (hnot _ hmode)
      · rename_i hrest
        rw [if_neg hrest]
        exact trackerLose_holds u _

theorem positionUpdate_lost {u : State} (hmode : u.tracker.mode = .tracking) (h : u.positionUpdate.tracker.mode = .lost) :
    u.positionUpdate.faults.holds .trackLost = true := positionTests_lost (u := u.withTracker _) hmode h

theorem deliverSlot_position_lost {i : SlotId} (hi : i = 5 ∨ i = 6) {u : State} (hmode : u.tracker.mode = .tracking)
    (hpending : u.banks.pendingSwitch = false) (h : (u.deliverSlot i).tracker.mode = .lost) :
    (u.deliverSlot i).faults.holds .trackLost = true := by
  rw [deliverSlot_position_tracker hi] at h
  rw [deliverSlot_position hi, biteSlotEvent_faults]
  · exact positionUpdate_lost hmode h
  · rw [(positionUpdate_frame u).2 .banks (by decide)]
    exact hpending

theorem positionStale_iff (s : State) : s.positionStale = true ↔
    (s.signal.slot 5).state ≠ .fresh ∨ (s.signal.slot 6).state ≠ .fresh := by
  simp [State.positionStale]

theorem stored_position_fresh {s : State} {i : SlotId} {v : Int}
    (haccepts : acceptsSample i v (s.signal.slot i).cfg)
    (hother : ∀ j : SlotId, j = 5 ∨ j = 6 → j ≠ i → (s.signal.slot j).state = .fresh) :
    (s.stored i v).positionStale = false := by
  have hfresh : ∀ j : SlotId, j = 5 ∨ j = 6 → ((s.stored i v).signal.slot j).state = .fresh := fun j hj => by
    by_cases hji : j = i
    · rw [hji]
      exact stored_fresh haccepts
    · rw [stored_slot, if_neg hji]
      exact hother j hj hji
  rw [Bool.eq_false_iff, ne_eq, positionStale_iff, hfresh 5 (.inl rfl), hfresh 6 (.inr rfl)]
  simp

/-- Settles O27: the tests of the position update in their order, on the extension the sample leaves. -/
theorem positionUpdate : Obligations.PositionUpdate := by
  intro s port id data i v hcarries hi haccepts hother htracking hmapped m xm d walked
  let u := (s.stored i v).withTracker { s.tracker with xm := (s.stored i v).extensionNow }
  have hxm : u.tracker.xm = xm := stored_extension haccepts
  have hu : u.tracker = { s.tracker with xm := xm } := congrArg (fun x => { s.tracker with xm := x }) (stored_extension haccepts)
  have hfresh : u.positionStale = false := stored_position_fresh haccepts hother
  have hvalid : mapFault m = none := htracking.2.1 (committed_of_mapped htracking hmapped)
  have hwindow : 0 ≤ itemAt m 2 := (nestWindow_of_valid hvalid).1
  have htaken := takeSample_accepted haccepts
  have htracker : ((s.takeSample i v).forward port { ident := id, data := data }).tracker = u.positionTests.tracker := by
    rw [forward_keeps (s.takeSample i v) port _ (b := .tracker) (by decide) (by decide), htaken,
      deliverSlot_position_tracker hi]
    rfl
  have houtside : itemAt m 2 < |xm| → s.tracker.mode = .tracking → u.positionTests =
      if xm < -itemAt m 2 then u.trackerLose .underRun
      else if |d| ≤ itemAt m 4 then u else u.trackerDistribute d := fun hout hmode => by
    have h := positionTests_outside hfresh hmode (by rw [hxm]; exact hout)
    rw [hxm] at h
    exact h
  refine ⟨_, exec_carriesSample hcarries, ?_⟩
  rw [htracker]
  refine ⟨fun hin => ?_, fun hout hmode => ?_, fun hmode => ⟨fun hbelow => ?_, fun habove hdead => ?_,
    fun habove hmoved hrest => ?_, fun habove hmoved hrest => ?_, fun hlost hpending => ?_⟩⟩
  · rw [positionTests_nested hfresh hmapped (by rwa [hxm]), State.withTracker_tracker, hu]
    refine ⟨rfl, rfl, rfl, rfl, fun k => (get_mapUsed m _ s.tracker.junctions k).trans ?_⟩
    have hrecord := tracksMap_records htracking hmapped k
    by_cases hk : junctionInUse m k = true
    · rw [if_pos hk]
      rfl
    · rw [if_neg hk] at hrecord ⊢
      exact hrecord
  · rw [positionTests_waits hfresh (by rwa [hxm]) hmode, hu]
  · rw [houtside (lt_abs.2 (.inr (by omega))) hmode, if_pos hbelow]
    exact congrArg (fun x => { x with mode := .lost, cause := some .underRun }) hu
  · rw [houtside (lt_abs.2 (.inl habove)) hmode, if_neg (by omega), if_pos hdead, hu]
  · rw [houtside (lt_abs.2 (.inl habove)) hmode, if_neg (by omega), if_neg (not_le.2 hmoved), trackerDistribute_whole (s := u) hrest,
      State.withTracker_tracker, hu, Tracker.withJunctions]
    have hwhole : trackedExtension m walked.2 = xm :=
      (trackedExtension_distribute htracking hmapped hrest).trans (by omega)
    exact congrArg (fun x => { s.tracker with xm := xm, xt := x, junctions := walked.2 }) hwhole
  · rw [houtside (lt_abs.2 (.inl habove)) hmode, if_neg (by omega), if_neg (not_le.2 hmoved), trackerDistribute_rest (s := u) hrest]
    exact congrArg (fun x => { x with mode := .lost, cause := some (if 0 < d then .overExtend else .underRun) }) hu
  · rw [forward_keeps (s.takeSample i v) port _ (b := .faults) (by decide) (by decide), htaken]
    exact deliverSlot_position_lost hi hmode hpending (by rwa [deliverSlot_position_tracker hi])

/-! ## A position that cannot be trusted (R51, R57, R118) -/

/-- The tracker LOST by SENSOR, with Xm as it stands and its report (R50, R51, R57). -/
def State.lostPosition (u : State) : State :=
  (u.withTracker { u.tracker with xm := u.extensionNow }).trackerLose .sensor

theorem lostPosition_bite (u : State) : u.lostPosition.bite = u.bite := rfl

theorem positionUpdate_stale {u : State} (h : u.positionStale = true) : u.positionUpdate =
    if u.tracker.mode = .tracking then u.lostPosition
    else u.withTracker { u.tracker with xm := u.extensionNow } :=
  positionTests_stale (u := u.withTracker { u.tracker with xm := u.extensionNow }) h

/-- A bite that runs is JAMMED by a tracker that is no longer TRACKING (R118). -/
theorem biteTrackerChange_jams {u : State} (hlost : u.tracker.mode ≠ .tracking)
    (hbite : u.bite.state = .engage ∨ u.bite.state = .cut ∨ u.bite.state = .regrip) :
    u.biteTrackerChange = u.enterJammed .trackLost := by
  unfold State.biteTrackerChange
  rw [if_neg hlost]
  rcases hbite with h | h | h <;> rw [h]

/-- Neither position slot has work of its own in a JAMMED bite (R119, R121). -/
theorem biteSlotEvent_jammed {u : State} {i : SlotId} (hi : i = 5 ∨ i = 6) (h : u.biteTrackerChange.bite.state = .jammed) :
    u.biteSlotEvent i true = u.biteTrackerChange := by
  rcases hi with rfl | rfl
  · change u.biteTrackerChange.biteHeadTest = _
    rw [State.biteHeadTest, h]
  · change u.biteTrackerChange.biteDepth = _
    rw [State.biteDepth, h]

theorem trackerChanged_of_mode {m : MapItems} {before after : Tracker} (h : before.mode ≠ after.mode) :
    trackerChanged m before after = true := by
  simp [trackerChanged, h]

theorem taken_position_stale {s : State} {i : SlotId} {v : Int} (hi : i = 5 ∨ i = 6)
    (h : ¬ acceptsSample i v (s.signal.slot i).cfg ∨
      ∃ j : SlotId, (j = 5 ∨ j = 6) ∧ j ≠ i ∧ (s.signal.slot j).state ≠ .fresh) :
    (s.storeSlot i ((s.signal.slot i).sampled i v)).positionStale = true := by
  have hstale : ∃ j : SlotId, (j = 5 ∨ j = 6) ∧
      ((s.storeSlot i ((s.signal.slot i).sampled i v)).signal.slot j).state ≠ .fresh := by
    rcases h with hrefused | ⟨j, hj, hji, hfresh⟩
    · refine ⟨i, hi, ?_⟩
      rw [slot_storeSlot, if_pos rfl, (sampled_lost_iff i v _).2]
      · decide
      · simpa [acceptsSample] using hrefused
    · exact ⟨j, hj, by rwa [slot_storeSlot, if_neg hji]⟩
  rw [positionStale_iff]
  obtain ⟨j, rfl | rfl, hj⟩ := hstale
  · exact .inl hj
  · exact .inr hj

/-- Settles O28: the tracker first, then the engine, which takes the loss. -/
theorem stalePositionLosesTracking : Obligations.StalePositionLosesTracking := by
  intro s port id data i v hcarries hi hcannot
  let w := s.storeSlot i ((s.signal.slot i).sampled i v)
  have hframe : unchangedExcept [.signal, .faults] s w := storeSlot_frame s i _
  have hmodeW : w.tracker = s.tracker := hframe.2 .tracker (by decide)
  have hbiteW : w.bite = s.bite := hframe.2 .bite (by decide)
  have hupdate := positionUpdate_stale (taken_position_stale hi hcannot)
  have htaken : s.takeSample i v = w.deliverSlot i := rfl
  have hkept : ∀ {b : Block}, b ≠ .cab → b ≠ .drive → sameBlock (w.deliverSlot i)
      ((s.takeSample i v).forward port { ident := id, data := data }) b := fun hc hd => forward_keeps _ port _ hc hd
  have htracker := (hkept (b := .tracker) (by decide) (by decide)).trans (deliverSlot_position_tracker hi w)
  have heffective : ∀ j, ((s.takeSample i v).forward port { ident := id, data := data }).effective j = w.effective j :=
    fun j => (effective_of_signal (hkept (b := .signal) (by decide) (by decide)) j).trans (effective_deliverSlot w i j)
  have hkelly : w.kelly = s.kelly := hframe.2 .kelly (by decide)
  have hxm : w.positionUpdate.tracker.xm = w.extensionNow := by
    rw [hupdate]
    split <;> rfl
  have hlost : s.tracker.mode = .tracking → w.positionUpdate = w.lostPosition := fun hmode => by
    rw [hupdate, if_pos (by rw [hmodeW, hmode])]
  refine ⟨_, exec_carriesSample hcarries, ?_, fun hmode => ?_, fun hmode => ⟨?_, fun hpending => ?_, fun hbite => ?_⟩⟩
  · rw [htracker, hxm, heffective, heffective, State.extensionNow, hkelly]
    rfl
  · rw [htracker, hxm, hupdate, if_neg (by rwa [hmodeW]), ← hmodeW]
    rfl
  · rw [htracker, hxm, hlost hmode, ← hmodeW]
    rfl
  · rw [hkept (b := .faults) (by decide) (by decide)]
    refine deliverSlot_position_lost hi (by rw [hmodeW, hmode]) ?_ ?_
    · rw [hframe.2 .banks (by decide), hpending]
    · rw [deliverSlot_position_tracker hi, hlost hmode]
      rfl
  · rw [hkept (b := .bite) (by decide) (by decide), deliverSlot_position hi, hlost hmode,
      trackerChanged_of_mode (by rw [hmodeW, hmode]; exact (nomatch ·))]
    have hjams : (w.lostPosition).biteTrackerChange = w.lostPosition.enterJammed .trackLost :=
      biteTrackerChange_jams (nomatch ·) (by rw [← hbiteW] at hbite; exact hbite)
    rw [biteSlotEvent_jammed hi (by rw [hjams, enterJammed_bite]), hjams, enterJammed_bite]
    have hctx : w.lostPosition.bite.ctx = s.bite.ctx := by
      rw [lostPosition_bite, hbiteW]
    exact ⟨rfl, rfl, congrArg (Option.map fun x => { x with jams := bump x.jams 255 }) hctx, rfl, rfl⟩

end Sys2Proof.Machine
end

section
/-! The engine on an accepted position (R116 to R122): the tracker change first, then the slot's own work. -/

namespace Sys2Proof.Machine

/-! ## A tracker change while TRACKING (R116, R117) -/

/-- The engine before a slot event's own work: a tracker change is taken, if there was one (R117). -/
def State.steppedBy (u : State) (changed : Bool) : State := if changed then u.biteTrackerChange else u

theorem biteSlotEvent_head (u : State) (c : Bool) : u.biteSlotEvent 5 c = (u.steppedBy c).biteHeadTest := rfl

theorem biteSlotEvent_depth (u : State) (c : Bool) : u.biteSlotEvent 6 c = (u.steppedBy c).biteDepth := rfl

section
variable {u : State}

/-- Outside ENGAGE, CUT and REGRIP the engine has no part in a tracker change. -/
theorem steppedBy_unplaced (h : cutting u.bite.state = false) (c : Bool) : u.steppedBy c = u := by
  cases c
  · rfl
  · exact biteTrackerChange_unplaced h

theorem steppedBy_regrip (h : u.bite.state = .regrip) (ht : u.tracker.mode = .tracking) (c : Bool) : u.steppedBy c = u := by
  cases c
  · rfl
  · change u.biteTrackerChange = u
    rw [State.biteTrackerChange, if_pos ht, h]

theorem steppedBy_cut_ready (h : u.bite.state = .cut) (hr : u.crowdReady = true) (c : Bool) : u.steppedBy c = u := by
  cases c
  · rfl
  · change u.biteTrackerChange = u
    rw [State.biteTrackerChange, if_pos (tracking_of_crowdReady hr), h]
    exact if_pos hr

/-- A junction that opens takes a bite in CUT to ENGAGE, whose check does not pass (R116, R117). -/
theorem steppedBy_cut_open (h : u.bite.state = .cut) (ht : u.tracker.mode = .tracking) (hr : u.crowdReady = false) :
    u.steppedBy true = u.biteLeave .engage := by
  have hready : (u.biteLeave .engage).crowdReady = false := by
    rw [crowdReady_of_same ((biteLeave_frame u .engage).2 .tracker (by decide))
      ((biteLeave_frame u .engage).2 .kelly (by decide)), hr]
  change u.biteTrackerChange = _
  rw [State.biteTrackerChange, if_pos ht, h]
  change (if u.crowdReady = true then u else u.enterEngage) = _
  rw [if_neg (by rw [hr]; decide), State.enterEngage, State.engageCheck, if_neg (by rw [hready]; decide)]

end

/-! ## An accepted position (R29, R30) -/

/-- The state in which the engine takes the slot event of an accepted position. -/
def State.positioned (s : State) (i : SlotId) (v : Int) : State := (s.stored i v).positionUpdate

/-- The tracker change of an accepted position (R66). -/
def State.positionChanged (s : State) (i : SlotId) (v : Int) : Bool :=
  trackerChanged s.kelly.items s.tracker (s.positioned i v).tracker

section
variable {s : State} {i : SlotId} {v : Int}

theorem positioned_frame (s : State) (i : SlotId) (v : Int) :
    unchangedExcept [.signal, .tracker, .faults] s (s.positioned i v) :=
  unchangedExcept_comp (stored_frame s i v) (positionUpdate_frame _) (by decide) (by decide)

theorem positioned_effective (h : acceptsSample i v (s.signal.slot i).cfg) (j : SlotId) :
    (s.positioned i v).effective j = effectiveWith s i v j := by
  exact (effective_of_signal ((positionUpdate_frame (s.stored i v)).2 .signal (by decide)) j).trans (stored_effective h j)

/-- Where there was no tracker change, the crowd-ready output is as it was (R66). -/
theorem positioned_crowdReady (h : s.positionChanged i v = false) : (s.positioned i v).crowdReady = s.crowdReady := by
  obtain ⟨hmode, hstates⟩ := unchanged_tracker h
  exact crowdReady_congr hmode ((positioned_frame s i v).2 .kelly (by decide)) hstates

/-- What an accepted position comes to: the engine's work on the state that the tracker left. -/
theorem exec_position {port : PortId} {id : Ident} {data : List Byte} (hcarries : carriesSample s port id data i v)
    (hi : i = 5 ∨ i = 6) (haccepts : acceptsSample i v (s.signal.slot i).cfg) :
    ∃ t, exec (.frameArrival port id data) s = .next t ∧ t.tracker = (s.positioned i v).tracker ∧
      t.crowdReady = (s.positioned i v).crowdReady ∧
      t.bite = ((s.positioned i v).biteSlotEvent i (s.positionChanged i v)).bite ∧
      t.banks = ((s.positioned i v).biteSlotEvent i (s.positionChanged i v)).banks ∧
      t.reservation = ((s.positioned i v).biteSlotEvent i (s.positionChanged i v)).reservation := by
  have htaken : s.takeSample i v = (s.positioned i v).biteSlotEvent i (s.positionChanged i v) := by
    rw [takeSample_accepted haccepts, deliverSlot_position hi]
    rfl
  have hbitten := biteSlotEvent_frame (s.positioned i v) i (s.positionChanged i v)
  refine ⟨_, exec_carriesSample hcarries, ?_⟩
  rw [htaken]
  have hkept : ∀ {b : Block}, b ≠ .cab → b ≠ .drive → sameBlock ((s.positioned i v).biteSlotEvent i (s.positionChanged i v))
      (((s.positioned i v).biteSlotEvent i (s.positionChanged i v)).forward port { ident := id, data := data }) b :=
    fun hc hd => forward_keeps _ port _ hc hd
  have htracker := (hkept (b := .tracker) (by decide) (by decide)).trans (hbitten.2 .tracker (by decide))
  have hkelly := (hkept (b := .kelly) (by decide) (by decide)).trans (hbitten.2 .kelly (by decide))
  exact ⟨htracker, crowdReady_of_same htracker hkelly, hkept (b := .bite) (by decide) (by decide),
    hkept (b := .banks) (by decide) (by decide), hkept (b := .reservation) (by decide) (by decide)⟩

end

/-! ## The head tests (R121) -/

theorem switchedIf_congr {p : Bool} {s t u w : State} (hbanks : u.banks = s.banks) (hreservation : u.reservation = s.reservation)
    (hbanks' : t.banks = w.banks) (hreservation' : t.reservation = w.reservation) (h : switchedIf p u w) : switchedIf p s t := by
  unfold switchedIf at h ⊢
  rw [hbanks', hreservation', ← hbanks, ← hreservation]
  exact h

theorem biteHeadTest_cut {u : State} (h : u.bite.state = .cut) :
    u.biteHeadTest = if headLimit u.activeBank ≤ u.effective 5 then u.enterRegrip else u := by
  rw [State.biteHeadTest, h]

theorem biteHeadTest_regrip {u : State} (h : u.bite.state = .regrip) : u.biteHeadTest =
    if u.effective 5 ≤ headLimit u.activeBank - regripClear u.activeBank then u.enterEngage else u := by
  rw [State.biteHeadTest, h]

theorem biteHeadTest_none {u : State} (h : u.bite.state = .settle ∨ u.bite.state = .jammed) : u.biteHeadTest = u := by
  rcases h with h | h <;> rw [State.biteHeadTest, h]

/-- Settles O32: the head test of each state, after a tracker change that it does not see. -/
theorem headTests : Obligations.HeadTests := by
  intro s port id data v x hcarries haccepts hs hx head b
  obtain ⟨t, hexec, htracker, hready, hbite, hbanks, hreservation⟩ := exec_position hcarries (.inl rfl) haccepts
  rw [biteSlotEvent_head] at hbite hbanks hreservation
  let u := s.positioned 5 v
  have hbiteU : u.bite = s.bite := (positioned_frame s 5 v).2 .bite (by decide)
  have hbanksU : u.banks = s.banks := (positioned_frame s 5 v).2 .banks (by decide)
  have hreservationU : u.reservation = s.reservation := (positioned_frame s 5 v).2 .reservation (by decide)
  have hbankU : u.activeBank = b := by rw [State.activeBank, hbanksU]; rfl
  have hhead : u.effective 5 = head := positioned_effective haccepts 5
  have hjam : s.bite.state ≠ .jammed → s.bite.jamCause = none := fun h =>
    Option.not_isSome_iff_eq_none.1 fun hsome => h (hs.1.1 hsome)
  have hprogress : s.bite.state ≠ .cut → s.bite.progressTimer = none := fun h =>
    Option.not_isSome_iff_eq_none.1 fun hsome => h (hs.2.2.1.1 hsome)
  have hsettle : s.bite.state ≠ .settle → s.bite.settleTimer = none := fun h =>
    Option.not_isSome_iff_eq_none.1 fun hsome => h (hs.2.2.2.1.1 hsome)
  refine ⟨t, hexec, fun hcut hr hin => ?_, fun hcut hr hout => ?_, fun hregrip ht hband => ?_,
    fun hregrip ht hclear => ?_, fun hother => ?_⟩
  · rw [steppedBy_cut_ready (by rw [hbiteU, hcut]) (by rw [← hready, hr]), biteHeadTest_cut (by rw [hbiteU, hcut]),
      if_pos (by rw [hbankU, hhead]; exact hin)] at hbite hbanks hreservation
    refine ⟨?_, ?_⟩
    · rw [hbite, enterRegrip_bite, hbiteU, hx]
      dsimp only
      rw [hjam (by rw [hcut]; decide), hsettle (by rw [hcut]; decide)]
      rfl
    · have hswitched := biteLeave_switched u .regrip
      rw [hbiteU, hcut, hbanksU] at hswitched
      exact switchedIf_congr hbanksU hreservationU hbanks hreservation hswitched
  · rw [steppedBy_cut_ready (by rw [hbiteU, hcut]) (by rw [← hready, hr]), biteHeadTest_cut (by rw [hbiteU, hcut]),
      if_neg (by rw [hbankU, hhead]; exact not_le.2 hout)] at hbite hbanks hreservation
    exact ⟨hbite.trans hbiteU, hbanks.trans hbanksU, hreservation.trans hreservationU⟩
  · rw [steppedBy_regrip (by rw [hbiteU, hregrip]) (by rw [← htracker, ht]), biteHeadTest_regrip (by rw [hbiteU, hregrip]),
      if_neg (by rw [hbankU, hhead]; exact not_le.2 hband)] at hbite
    exact hbite.trans hbiteU
  · rw [steppedBy_regrip (by rw [hbiteU, hregrip]) (by rw [← htracker, ht]), biteHeadTest_regrip (by rw [hbiteU, hregrip]),
      if_pos (by rw [hbankU, hhead]; exact hclear), enterEngage_not_cut (by rw [hbiteU, hregrip]; decide), ← hready,
      State.withBite_bite, hbankU, hbiteU, hx] at hbite
    have hjamnone := hjam (by rw [hregrip]; decide)
    have hsettlenone := hsettle (by rw [hregrip]; decide)
    have hprogressnone := hprogress (by rw [hregrip]; decide)
    refine ⟨fun hr => ?_, fun hr => ?_⟩
    · rw [hbite, if_neg (by rw [hr]; decide)]
      dsimp only
      rw [hjamnone, hsettlenone, hprogressnone]
    · rw [hbite, if_pos hr]
      dsimp only
      rw [hjamnone, hsettlenone]
      rfl
  · rw [steppedBy_unplaced (by rw [hbiteU]; rcases hother with h | h <;> rw [h] <;> rfl),
      biteHeadTest_none (by rw [hbiteU]; exact hother)] at hbite
    exact hbite.trans hbiteU

end Sys2Proof.Machine
end

section
/-! Depth in the cut (R114, R119, R120, R122). -/

namespace Sys2Proof.Machine

/-- The engine with a raised context, in CUT (R119). -/
def State.raised (u : State) (y : BiteContext) : State := u.withBite { u.bite with ctx := some y }

section
variable {u : State} {x : BiteContext} (hcut : u.bite.state = .cut) (hx : u.bite.ctx = some x)
include hcut hx

theorem biteDepth_done (h : (x.raise (u.effective 6)).rb = 0) :
    u.biteDepth = (u.raised (x.raise (u.effective 6))).enterSettle := by
  rw [State.biteDepth, hcut, hx]
  exact if_pos h

theorem biteDepth_goes_on (h : (x.raise (u.effective 6)).rb ≠ 0) : u.biteDepth =
    if u.bite.refDepth + progressMin u.activeBank ≤ (x.raise (u.effective 6)).hw then
      (u.raised (x.raise (u.effective 6))).withBite
        { u.bite with
          ctx := some (x.raise (u.effective 6)), progressTimer := some (progressTime u.activeBank).toNat
          refDepth := (x.raise (u.effective 6)).hw }
    else u.raised (x.raise (u.effective 6)) := by
  rw [State.biteDepth, hcut, hx]
  exact if_neg h

end

theorem biteDepth_not_cut {u : State} (h : u.bite.state ≠ .cut) : u.biteDepth = u := by
  unfold State.biteDepth
  split
  · rename_i hcut _
    exact absurd hcut h
  · rfl

/-! ## SETTLE (R122) -/

/-- The exit from CUT into SETTLE, its timer still to be armed (R120, R126). -/
def State.settling (u : State) : State := u.biteLeave .settle

theorem enterSettle_waits {u : State} (h : settleTime u.settling.activeBank ≠ 0) : u.enterSettle =
    u.settling.withBite { u.settling.bite with settleTimer := some (settleTime u.settling.activeBank).toNat } := if_neg h

theorem enterSettle_ends {u : State} (h : settleTime u.settling.activeBank = 0) : u.enterSettle = u.settling.biteEnd .done :=
  if_pos h

/-- Either way the banks are as the exit from CUT left them. -/
theorem enterSettle_banks (u : State) :
    u.enterSettle.banks = u.settling.banks ∧ u.enterSettle.reservation = u.settling.reservation := by
  by_cases h : settleTime u.settling.activeBank = 0
  · have hopen : u.settling.bite.state ≠ .cut := by
      rw [State.settling, biteLeave_bite]
      exact (nomatch ·)
    rw [enterSettle_ends h, biteEnd_not_cut hopen]
    exact ⟨rfl, rfl⟩
  · rw [enterSettle_waits h]
    exact ⟨rfl, rfl⟩

/-- Settles O31: the junctions first, then HW and RB, and the end of the cut at RB 0. -/
theorem depthCountsInCut : Obligations.DepthCountsInCut := by
  intro s port id data v x hcarries haccepts hs hcut hx hw rb
  obtain ⟨t, hexec, htracker, hready, hbite, hbanks, hreservation⟩ := exec_position hcarries (.inr rfl) haccepts
  rw [biteSlotEvent_depth] at hbite hbanks hreservation
  let u := s.positioned 6 v
  have hframe := positioned_frame s 6 v
  have hbiteU : u.bite = s.bite := hframe.2 .bite (by decide)
  have hbanksU : u.banks = s.banks := hframe.2 .banks (by decide)
  have hreservationU : u.reservation = s.reservation := hframe.2 .reservation (by decide)
  have hcutU : u.bite.state = .cut := by rw [hbiteU, hcut]
  have hxU : u.bite.ctx = some x := by rw [hbiteU, hx]
  have hbankU : u.activeBank = s.activeBank := by rw [State.activeBank, hbanksU, State.activeBank]
  have hraise : x.raise (u.effective 6) = { x with hw := hw, rb := rb } := by
    rw [positioned_effective haccepts]
    rfl
  obtain ⟨-, -, -, -, -, hplaced, -⟩ := hs
  refine ⟨t, hexec, fun ht hr => ?_, fun hr hrb => ?_, fun hr hrb => ?_⟩
  · have hchanged : s.positionChanged 6 v = true := by
      by_contra hsame
      have hsameready := positioned_crowdReady (Bool.eq_false_iff.2 hsame)
      rw [← hready, hr, hplaced hcut] at hsameready
      exact nomatch hsameready
    rw [hchanged, steppedBy_cut_open hcutU (by rw [← htracker, ht]) (by rw [← hready, hr]),
      biteDepth_not_cut (by rw [biteLeave_bite]; exact (nomatch ·)), biteLeave_bite] at hbite
    rw [hbite]
    exact ⟨rfl, hxU, rfl⟩
  · rw [steppedBy_cut_ready hcutU (by rw [← hready, hr]), biteDepth_goes_on hcutU hxU (by rw [hraise]; exact hrb), hraise]
      at hbite hbanks
    by_cases hprogress : s.bite.refDepth + itemAt s.activeBank 46 ≤ hw
    · have htest : u.bite.refDepth + progressMin u.activeBank ≤ hw := by rw [hbiteU, hbankU]; exact hprogress
      rw [if_pos htest] at hbite hbanks
      rw [hbite, hbanks]
      exact ⟨hcutU, rfl, hbanksU, fun _ => ⟨rfl, congrArg (fun b => some (progressTime b).toNat) hbankU⟩,
        fun h => absurd hprogress (not_le.2 h)⟩
    · have htest : ¬ u.bite.refDepth + progressMin u.activeBank ≤ hw := by rw [hbiteU, hbankU]; exact hprogress
      rw [if_neg htest] at hbite hbanks
      rw [hbite, hbanks]
      exact ⟨hcutU, rfl, hbanksU, fun h => absurd h hprogress, fun _ =>
        ⟨(congrArg BiteEngine.refDepth hbiteU :), (congrArg BiteEngine.progressTimer hbiteU :)⟩⟩
  · rw [steppedBy_cut_ready hcutU (by rw [← hready, hr]), biteDepth_done hcutU hxU (by rw [hraise]; exact hrb), hraise]
      at hbite hbanks hreservation
    let r := u.raised { x with hw := hw, rb := rb }
    have hcutR : r.bite.state = .cut := hcutU
    obtain ⟨hsettlebanks, hsettlereservation⟩ := enterSettle_banks r
    have hbankT : t.activeBank = r.settling.activeBank := by
      rw [State.activeBank, hbanks, hsettlebanks, State.activeBank]
    have hswitched := biteLeave_switched r .settle
    rw [hcutR] at hswitched
    have hpending : r.banks.pendingSwitch = s.banks.pendingSwitch := congrArg ProfileBanks.pendingSwitch hbanksU
    rw [hpending] at hswitched
    have hsettling : r.settling.bite = { s.bite with
        state := .settle, jamCause := none, progressTimer := none, settleTimer := none
        ctx := some { x with hw := hw, rb := 0 } } := by
      have hraised : r.bite = { u.bite with ctx := some { x with hw := hw, rb := rb } } := rfl
      rw [State.settling, biteLeave_bite, hraised, hbiteU, hrb]
    have hclock : r.settling.clock = s.clock :=
      ((biteLeave_frame r .settle).2 .clock (by decide)).trans (hframe.2 .clock (by decide))
    refine ⟨switchedIf_congr (u := r) hbanksU hreservationU (hbanks.trans hsettlebanks)
      (hreservation.trans hsettlereservation) hswitched, ?_⟩
    by_cases hend : settleTime r.settling.activeBank = 0
    · rw [enterSettle_ends hend, biteEnd_bite, hsettling, hclock] at hbite
      rw [hbite, hbankT]
      exact ⟨rfl, rfl, fun hwait => absurd hend hwait, fun _ => ⟨rfl, rfl, rfl, appendBite_logAppended _ _⟩⟩
    · rw [enterSettle_waits hend, State.withBite_bite, hsettling] at hbite
      rw [hbite, hbankT]
      exact ⟨rfl, rfl, fun _ => ⟨rfl, rfl, rfl, rfl⟩, fun hzero => absurd hzero hend⟩

end Sys2Proof.Machine
end

section
/-! Lock and unlock (R61, R63) on an accepted rotary pressure. -/

namespace Sys2Proof.Machine

/-! ## The nearest lock point (R61) -/

/-- The lock point is in use and its window holds the extension. -/
def lockNear (m : MapItems) (k : Fin 5) (e : Int) (p : Fin 4) : Prop :=
  (p.val : Int) < lockPointCount m k ∧ |e - lockPoint m k p| ≤ lockWindow m

/-- Lock point p stands before q: nearer, or equally near and earlier. -/
def lockBefore (m : MapItems) (k : Fin 5) (e : Int) (p q : Fin 4) : Prop :=
  |e - lockPoint m k p| < |e - lockPoint m k q| ∨ (|e - lockPoint m k p| = |e - lockPoint m k q| ∧ p < q)

/-- The lock point found among the first n: none where none of them is near, else one that stands before all others. -/
def foundBelow (m : MapItems) (k : Fin 5) (e : Int) (n : Nat) : Option (Fin 4) → Prop
  | none => ∀ q : Fin 4, q.val < n → ¬ lockNear m k e q
  | some p => p.val < n ∧ lockNear m k e p ∧ ∀ q : Fin 4, q.val < n → lockNear m k e q → q ≠ p → lockBefore m k e p q

section
variable {m : MapItems} {k : Fin 5} {e : Int} {i : Fin 4}

theorem nearerLock_far (h : ¬ lockNear m k e i) (best : Option (Fin 4)) : nearerLock m k e best i = best := by
  unfold nearerLock
  rw [magnitude_eq_abs]
  exact if_neg h

theorem nearerLock_first (h : lockNear m k e i) : nearerLock m k e none i = some i := by
  unfold nearerLock
  rw [magnitude_eq_abs]
  exact if_pos h

theorem nearerLock_next (h : lockNear m k e i) (p : Fin 4) : nearerLock m k e (some p) i =
    if |e - lockPoint m k i| < |e - lockPoint m k p| then some i else some p := by
  unfold nearerLock
  rw [if_pos (by rw [magnitude_eq_abs]; exact h)]
  dsimp only
  rw [magnitude_eq_abs, magnitude_eq_abs]

end

theorem foundBelow_nearerLock {m : MapItems} {k : Fin 5} {e : Int} {best : Option (Fin 4)} (i : Fin 4)
    (h : foundBelow m k e i.val best) : foundBelow m k e (i.val + 1) (nearerLock m k e best i) := by
  have hlast : ∀ q : Fin 4, q.val < i.val + 1 → q.val < i.val ∨ q = i := fun q hq => by omega
  by_cases hnear : lockNear m k e i
  · cases best with
    | none =>
      rw [nearerLock_first hnear]
      refine ⟨Nat.lt_succ_self _, hnear, fun q hq hnearq hne => ?_⟩
      rcases hlast q hq with hbelow | rfl
      · exact absurd hnearq (h q hbelow)
      · exact absurd rfl hne
    | some p =>
      obtain ⟨hp, hnearp, hbefore⟩ := h
      rw [nearerLock_next hnear]
      split
      · rename_i hcloser
        refine ⟨Nat.lt_succ_self _, hnear, fun q hq hnearq hne => ?_⟩
        rcases hlast q hq with hbelow | rfl
        · by_cases hqp : q = p
          · rw [hqp]
            exact .inl hcloser
          · rcases hbefore q hbelow hnearq hqp with hlt | ⟨heq, -⟩
            · exact .inl (hcloser.trans hlt)
            · exact .inl (heq ▸ hcloser)
        · exact absurd rfl hne
      · rename_i hcloser
        refine ⟨by omega, hnearp, fun q hq hnearq hne => ?_⟩
        rcases hlast q hq with hbelow | rfl
        · exact hbefore q hbelow hnearq hne
        · rcases lt_or_eq_of_le (not_lt.1 hcloser) with hlt | heq
          · exact .inl hlt
          · exact .inr ⟨heq, hp⟩
  · rw [nearerLock_far hnear]
    cases best with
    | none =>
      intro q hq
      rcases hlast q hq with hbelow | rfl
      · exact h q hbelow
      · exact hnear
    | some p =>
      obtain ⟨hp, hnearp, hbefore⟩ := h
      refine ⟨by omega, hnearp, fun q hq hnearq hne => ?_⟩
      rcases hlast q hq with hbelow | rfl
      · exact hbefore q hbelow hnearq hne
      · exact absurd hnearq hnear

theorem foundBelow_lockPointFor (m : MapItems) (k : Fin 5) (e : Int) : foundBelow m k e 4 (lockPointFor m k e) :=
  foundBelow_nearerLock 3 (foundBelow_nearerLock 2 (foundBelow_nearerLock 1 (foundBelow_nearerLock 0
    fun _ hq => absurd hq (Nat.not_lt_zero _))))

/-- A junction that is FREE or FULL locks at the nearest lock point whose window holds it. -/
theorem lockJunction_locks {m : MapItems} {k : Fin 5} {j : Junction} (hst : j.state = .free ∨ j.state = .full)
    (h : ∃ p, lockNear m k j.ext p) : ∃ p, lockNear m k j.ext p ∧
      lockJunction m k j = { ext := lockPoint m k p, state := .locked, lock := some p } ∧
      ∀ q, lockNear m k j.ext q → q ≠ p → lockBefore m k j.ext p q := by
  obtain ⟨p, hp⟩ := h
  have hfound := foundBelow_lockPointFor m k j.ext
  cases hlock : lockPointFor m k j.ext with
  | none =>
    rw [hlock] at hfound
    exact absurd hp (hfound p p.isLt)
  | some b =>
    rw [hlock] at hfound
    obtain ⟨-, hnear, hbefore⟩ := hfound
    refine ⟨b, hnear, ?_, fun q => hbefore q q.isLt⟩
    unfold lockJunction
    rcases hst with hst | hst <;> rw [hst, hlock]

/-- Any other junction keeps its record. -/
theorem lockJunction_keeps {m : MapItems} {k : Fin 5} {j : Junction}
    (h : ¬ ((j.state = .free ∨ j.state = .full) ∧ ∃ p, lockNear m k j.ext p)) : lockJunction m k j = j := by
  have hfound : j.state = .free ∨ j.state = .full → lockPointFor m k j.ext = none := fun hst => by
    cases hlock : lockPointFor m k j.ext with
    | none => rfl
    | some p => exact absurd ⟨hst, p, lockPointFor_some hlock⟩ h
  unfold lockJunction
  cases hst : j.state with
  | free => rw [hfound (.inl hst)]
  | full => rw [hfound (.inr hst)]
  | nested | locked => rfl

theorem unlockJunction_locked {j : Junction} (h : j.state = .locked) :
    unlockJunction j = { ext := j.ext, state := .free, lock := none } := by
  rw [unlockJunction, h]

theorem unlockJunction_keeps {j : Junction} (h : j.state ≠ .locked) : unlockJunction j = j := by
  unfold unlockJunction
  split
  · exact absurd ‹_› h
  all_goals rfl

/-! ## The tracker on a rotary pressure -/

section
variable {u : State}

theorem pressureUpdate_keeps (h : u.tracker.mode ≠ .tracking ∨
    (-lockTorque u.kelly.items < u.signal.torque ∧ u.signal.torque < lockTorque u.kelly.items)) : u.pressureUpdate = u := by
  by_cases hmode : u.tracker.mode = .tracking
  · obtain ⟨hlow, hhigh⟩ := h.resolve_left (not_not.2 hmode)
    rw [State.pressureUpdate, if_neg (not_not.2 hmode), if_neg (not_le.2 hhigh), if_neg (not_le.2 hlow)]
  · rw [State.pressureUpdate, if_pos hmode]

variable (hmode : u.tracker.mode = .tracking)
include hmode

theorem pressureUpdate_locks (h : lockTorque u.kelly.items ≤ u.signal.torque) : u.pressureUpdate =
    u.withTracker (u.tracker.withJunctions u.kelly.items
      (mapUsed u.kelly.items (lockJunction u.kelly.items) u.tracker.junctions)) := by
  rw [State.pressureUpdate, if_neg (not_not.2 hmode), if_pos h]

theorem pressureUpdate_unlocks (hpos : 0 < lockTorque u.kelly.items) (h : u.signal.torque ≤ -lockTorque u.kelly.items) :
    u.pressureUpdate = u.withTracker
      { u.tracker with junctions := mapUsed u.kelly.items (fun _ => unlockJunction) u.tracker.junctions } := by
  rw [State.pressureUpdate, if_neg (not_not.2 hmode), if_neg (by omega), if_pos h]

end

theorem pressureUpdate_modes (u : State) : u.pressureUpdate.tracker.mode = u.tracker.mode ∧
    u.pressureUpdate.tracker.cause = u.tracker.cause ∧ u.pressureUpdate.tracker.xm = u.tracker.xm := by
  unfold State.pressureUpdate
  split_ifs <;> exact ⟨rfl, rfl, rfl⟩

/-! ## The engine while TRACKING (R116, R117) -/

/-- The check of ENGAGE keeps the context, and passes exactly where the kelly is crowd-ready (R116). -/
theorem engageCheck_bite (u : State) : u.engageCheck.bite.ctx = u.bite.ctx ∧
    (u.bite.state = .engage → u.engageCheck.bite.state = if u.crowdReady = true then .cut else .engage) := by
  unfold State.engageCheck
  split
  · refine ⟨?_, fun _ => ?_⟩
    · rw [State.enterCut, State.withBite_bite]
      dsimp only
      rw [biteLeave_bite]
    · rw [State.enterCut, State.withBite_bite]
      dsimp only
      rw [biteLeave_bite]
  · exact ⟨rfl, id⟩

theorem biteTrackerChange_engage {u : State} (ht : u.tracker.mode = .tracking) (h : u.bite.state = .engage) :
    u.biteTrackerChange = u.engageCheck := by
  rw [State.biteTrackerChange, if_pos ht, h]

/-- While TRACKING, a tracker change leaves the context, and a bite in ENGAGE or CUT where the kelly puts it (R116). -/
theorem steppedBy_tracking {u : State} (ht : u.tracker.mode = .tracking) (c : Bool) :
    (u.steppedBy c).bite.ctx = u.bite.ctx ∧
    (c = true → u.bite.state = .engage ∨ u.bite.state = .cut →
      (u.steppedBy c).bite.state = if u.crowdReady = true then .cut else .engage) := by
  cases c with
  | false => exact ⟨rfl, (nomatch ·)⟩
  | true =>
    cases hst : u.bite.state with
    | engage =>
      obtain ⟨hctx, hstate⟩ := engageCheck_bite u
      rw [State.steppedBy, if_pos rfl, biteTrackerChange_engage ht hst]
      exact ⟨hctx, fun _ _ => hstate hst⟩
    | cut =>
      cases hr : u.crowdReady with
      | true =>
        rw [steppedBy_cut_ready hst hr]
        exact ⟨rfl, fun _ _ => hst⟩
      | false =>
        rw [steppedBy_cut_open hst ht hr, biteLeave_bite]
        exact ⟨rfl, fun _ _ => rfl⟩
    | regrip =>
      rw [steppedBy_regrip hst ht]
      exact ⟨rfl, fun _ h => by rcases h with h | h <;> cases h⟩
    | idle | settle | jammed =>
      rw [steppedBy_unplaced (by rw [hst]; rfl)]
      exact ⟨rfl, fun _ h => by rcases h with h | h <;> cases h⟩

/-! ## An accepted rotary pressure (R27, R29, R30, R127) -/

/-- The state in which the tracker takes the slot event of an accepted rotary pressure. -/
def State.pressed (s : State) (i : SlotId) (v : Int) : State := (s.stored i v).refreshTorque

theorem pressed_frame (s : State) (i : SlotId) (v : Int) : unchangedExcept [.signal] s (s.pressed i v) :=
  unchangedExcept_trans (stored_frame s i v) (withSignal_frame _ _)

/-- What it comes to: lock and unlock, the engine's part of a tracker change, and the peak (R61, R63, R117, R127). -/
theorem takeSample_pressure {s : State} {i : SlotId} {v : Int} (hi : i = 1 ∨ i = 2)
    (haccepts : acceptsSample i v (s.signal.slot i).cfg) : s.takeSample i v =
      ((s.pressed i v).pressureUpdate.steppedBy
        (trackerChanged s.kelly.items s.tracker (s.pressed i v).pressureUpdate.tracker)).bitePeakTorque := by
  rw [takeSample_accepted haccepts]
  rcases hi with rfl | rfl <;> rfl

theorem steppedBy_frame (u : State) (c : Bool) : unchangedExcept biteBlocks u (u.steppedBy c) := by
  cases c
  · exact unchangedExcept_refl _ u
  · exact biteTrackerChange_frame u

theorem lockTorque_of_tracking {s : State} (hs : trackingOk s) (h : s.tracker.mode = .tracking) :
    0 < lockTorque s.kelly.items :=
  (lockTorque_of_valid (mapFault_of_tracking hs h)).1

/-- The junctions after the lock check of an accepted pressure (R61). -/
theorem lockCheck_junctions (m : MapItems) (js : Vector Junction 5) (k : Fin 5) :
    let locks := junctionInUse m k = true ∧ (js[k].state = .free ∨ js[k].state = .full) ∧ ∃ p, lockNear m k js[k].ext p
    (¬ locks → (mapUsed m (lockJunction m) js)[k] = js[k]) ∧
    (locks → ∃ p, lockNear m k js[k].ext p ∧
      (mapUsed m (lockJunction m) js)[k] = { ext := lockPoint m k p, state := .locked, lock := some p } ∧
      ∀ q, lockNear m k js[k].ext q → q ≠ p → lockBefore m k js[k].ext p q) := by
  rw [get_mapUsed]
  refine ⟨fun h => ?_, fun ⟨hused, hst, hnear⟩ => ?_⟩
  · split
    · rename_i hused
      exact lockJunction_keeps fun hlocks => h ⟨hused, hlocks⟩
    · rfl
  · rw [if_pos hused]
    exact lockJunction_locks hst hnear

/-- The junctions after an unlock (R63): a LOCKED one is in use, for the others keep their full-reset values (R48). -/
theorem unlock_junctions {s : State} (hs : trackingOk s) (hmode : s.tracker.mode = .tracking) (k : Fin 5) :
    (s.tracker.junctions[k].state = .locked →
      (mapUsed s.kelly.items (fun _ => unlockJunction) s.tracker.junctions)[k] =
        { ext := s.tracker.junctions[k].ext, state := .free, lock := none }) ∧
    (s.tracker.junctions[k].state ≠ .locked →
      (mapUsed s.kelly.items (fun _ => unlockJunction) s.tracker.junctions)[k] = s.tracker.junctions[k]) := by
  rw [get_mapUsed]
  have hrecord := tracksMap_records hs (by rw [hmode]; decide) k
  split
  · exact ⟨unlockJunction_locked, unlockJunction_keeps⟩
  · rename_i hunused
    rw [if_neg hunused] at hrecord
    refine ⟨fun hlocked => ?_, fun _ => rfl⟩
    rw [hrecord] at hlocked
    cases hlocked

/-- Settles O30: the tracker on the torque estimate that the sample leaves, then the engine. -/
theorem lockAndUnlock : Obligations.LockAndUnlock := by
  intro s port id data i v hcarries hi haccepts htracking hs m torque near locks
  let w := s.pressed i v
  let u := w.pressureUpdate
  have hframe : unchangedExcept [.signal] s w := pressed_frame s i v
  have hupdate : unchangedExcept [.tracker] w u := pressureUpdate_frame w
  have htorque : w.signal.torque = torque := stored_torque haccepts
  let changed := trackerChanged m s.tracker u.tracker
  let stepped := u.steppedBy changed
  have hstepped : unchangedExcept biteBlocks u stepped := steppedBy_frame u changed
  have hpeak : unchangedExcept [.bite] stepped stepped.bitePeakTorque := withBite_frame _ _
  have hkept : ∀ {b : Block}, b ≠ .cab → b ≠ .drive → sameBlock stepped.bitePeakTorque
      (stepped.bitePeakTorque.forward port { ident := id, data := data }) b := fun hc hd => forward_keeps _ port _ hc hd
  have hexec : exec (.frameArrival port id data) s =
      .next (stepped.bitePeakTorque.forward port { ident := id, data := data }) := by
    rw [exec_carriesSample hcarries, takeSample_pressure hi haccepts]
  generalize stepped.bitePeakTorque.forward port { ident := id, data := data } = t at hexec hkept
  have hsignalS : stepped.signal = w.signal :=
    (hstepped.2 .signal (by decide)).trans (hupdate.2 .signal (by decide))
  have hsignal : t.signal = w.signal :=
    (hkept (b := .signal) (by decide) (by decide)).trans ((hpeak.2 .signal (by decide)).trans hsignalS)
  have htracker : t.tracker = u.tracker := (hkept (b := .tracker) (by decide) (by decide)).trans
    ((hpeak.2 .tracker (by decide)).trans (hstepped.2 .tracker (by decide)))
  have hkelly : t.kelly = u.kelly := (hkept (b := .kelly) (by decide) (by decide)).trans
    ((hpeak.2 .kelly (by decide)).trans (hstepped.2 .kelly (by decide)))
  have hbite : t.bite = stepped.bitePeakTorque.bite := hkept (b := .bite) (by decide) (by decide)
  have hbiteU : u.bite = s.bite := hupdate.2 .bite (by decide)
  obtain ⟨hmode, hcause, hxm⟩ := pressureUpdate_modes w
  obtain ⟨-, -, -, -, hcutting, hcut, hengage, -⟩ := hs
  refine ⟨t, hexec, ?_, ?_, ?_, ?_, ?_, fun hkeeps => ?_, fun htrack hlock => ?_, fun htrack hunlock => ?_,
    fun hopen => ?_, ?_⟩
  · rw [hsignal, htorque]
  · rw [hsignal]
    rfl
  · rw [htracker, hmode]
    rfl
  · rw [htracker, hcause]
    rfl
  · rw [htracker, hxm]
    rfl
  · have hu : u = w := pressureUpdate_keeps (by rw [htorque]; exact hkeeps)
    rw [htracker, hu]
    rfl
  · have hu : u = _ := pressureUpdate_locks (u := w) htrack (by rw [htorque]; exact hlock)
    rw [htracker, hu]
    exact ⟨rfl, lockCheck_junctions m s.tracker.junctions⟩
  · have hu : u = _ := pressureUpdate_unlocks (u := w) htrack (lockTorque_of_tracking htracking htrack)
      (by rw [htorque]; exact hunlock)
    rw [htracker, hu]
    exact ⟨rfl, unlock_junctions htracking htrack⟩
  · have hready : t.crowdReady = u.crowdReady := crowdReady_of_same htracker hkelly
    have hstate : t.bite.state = stepped.bite.state := by rw [hbite]; rfl
    rw [hstate, hready]
    cases hchanged : changed with
    | true =>
      have htrack : u.tracker.mode = .tracking :=
        hmode.trans (hcutting (by rcases hopen with h | h <;> rw [h] <;> rfl))
      exact (steppedBy_tracking htrack changed).2 hchanged (hbiteU ▸ hopen)
    | false =>
      have hstays : stepped = u := by rw [show stepped = u.steppedBy changed from rfl, hchanged]; rfl
      obtain ⟨hsame, hstates⟩ := unchanged_tracker hchanged
      have hreadyS : u.crowdReady = s.crowdReady := crowdReady_congr hsame
        ((hupdate.2 .kelly (by decide)).trans (hframe.2 .kelly (by decide))) hstates
      rw [hstays, hbiteU, hreadyS]
      rcases hopen with h | h
      · rw [h, hengage h]
        rfl
      · rw [h, hcut h]
        rfl
  · have hctx : stepped.bite.ctx = s.bite.ctx := by
      by_cases htrack : u.tracker.mode = .tracking
      · rw [(steppedBy_tracking htrack changed).1, hbiteU]
      · have hu : u = w := pressureUpdate_keeps (.inl (hmode ▸ htrack))
        have hchanged : changed = false := by
          rw [show changed = trackerChanged m s.tracker u.tracker from rfl, hu]
          exact trackerChanged_same _ _
        rw [show stepped = u.steppedBy changed from rfl, hchanged]
        exact congrArg BiteEngine.ctx hbiteU
    have hpeakctx : stepped.bitePeakTorque.bite.ctx = stepped.bite.ctx.map fun x =>
        { x with peakT := min (max x.peakT (magnitude stepped.signal.torque)) 2000 } := rfl
    rw [hbite, hpeakctx, hctx, hsignalS, htorque, magnitude_eq_abs]

end Sys2Proof.Machine
end

section
/-! The absence timers (R20, R21, R29): an expiry, its report and the readers of the slot. -/

namespace Sys2Proof.Machine

/-! ## A slot judged anew -/

section
variable {s : State} {i : SlotId} {r : Slot}

theorem judgeSlot_same (h : r.state = (s.signal.slot i).state) : s.judgeSlot i r = s.withSignal (s.signal.withSlot i r) := by
  rw [State.judgeSlot, if_pos h, storeSlot_silent]
  rw [h]
  exact fun hlost => hlost.2 hlost.1

theorem judgeSlot_changed (h : r.state ≠ (s.signal.slot i).state) : s.judgeSlot i r = (s.storeSlot i r).deliverSlot i :=
  if_neg h

theorem slot_judgeSlot (s : State) (i j : SlotId) (r : Slot) :
    (s.judgeSlot i r).signal.slot j = if j = i then r else s.signal.slot j := by
  by_cases h : r.state = (s.signal.slot i).state
  · rw [judgeSlot_same h, State.withSignal_signal, slot_withSlot]
  · rw [judgeSlot_changed h, slot_deliverSlot, slot_storeSlot]

end

theorem absenceExpired_off {r : Slot} (h : r.cfg.absEn = false) : r.absenceExpired = { r with timer := .expired } := by
  rw [Slot.absenceExpired, if_neg (by rw [h]; decide)]

theorem absenceExpired_on {r : Slot} (h : r.cfg.absEn = true) :
    r.absenceExpired = { r with timer := .expired, lostAbsence := true, state := .lost } := if_pos h

/-- An expiry leaves the state where the detector is off or the slot is LOST already. -/
theorem absenceExpired_state {r : Slot} (h : r.cfg.absEn = false ∨ r.state = .lost) : r.absenceExpired.state = r.state := by
  cases hon : r.cfg.absEn with
  | false => rw [absenceExpired_off hon]
  | true =>
    rw [absenceExpired_on hon]
    rcases h with h | h
    · rw [hon] at h
      cases h
    · exact h.symm

/-! ## A delivery at rest -/

/-- With the tracker not TRACKING, its part of a slot event reports nothing (R57). -/
theorem trackerSlotEvent_silent {u : State} (h : u.tracker.mode ≠ .tracking) (i : SlotId) :
    (u.trackerSlotEvent i).faults = u.faults := by
  have hposition : ∀ w : State, w.tracker.mode ≠ .tracking → w.positionTests.faults = w.faults := fun w hw => by
    unfold State.positionTests
    rw [if_neg hw, if_pos hw]
    split_ifs <;> rfl
  unfold State.trackerSlotEvent
  split_ifs
  · exact hposition (u.withTracker { u.tracker with xm := u.extensionNow }) h
  · exact (pressureUpdate_frame u).2 .faults (by decide)
  · rfl

/-- With no bite open, the engine's part of a slot event changes nothing outside the engine. -/
theorem biteSlotEvent_idle_frame {u : State} (h : u.bite.state = .idle) (i : SlotId) (c : Bool) :
    unchangedExcept [.bite] u (u.biteSlotEvent i c) := by
  have hchange : (if c = true then u.biteTrackerChange else u) = u := steppedBy_unplaced (by rw [h]; rfl) c
  unfold State.biteSlotEvent
  simp only [hchange, biteHeadTest_idle h, biteDepth_idle h]
  split_ifs
  · exact withBite_frame u _
  · exact withBite_frame u _
  all_goals exact unchangedExcept_refl _ u

theorem deliverSlot_silent {s : State} (hmode : s.tracker.mode ≠ .tracking) (hidle : s.bite.state = .idle) (i : SlotId) :
    (s.deliverSlot i).faults = s.faults := by
  let u := s.refreshDerived i
  have hframe : unchangedExcept [.signal] s u := refreshDerived_frame s i
  have hmodeU : u.tracker.mode ≠ .tracking := by rwa [hframe.2 .tracker (by decide)]
  have htracked : (u.trackerSlotEvent i).bite.state = .idle := by
    rwa [(trackerSlotEvent_frame u i).2 .bite (by decide), hframe.2 .bite (by decide)]
  have hbitten : (u.trackedAndBitten i).faults = u.faults :=
    ((biteSlotEvent_idle_frame htracked i _).2 .faults (by decide)).trans (trackerSlotEvent_silent hmodeU i)
  change (u.slotEvent i).faults = _
  by_cases hcrowd : i = 3 ∨ i = 4
  · have huntracked : u.trackerSlotEvent i = u := by rcases hcrowd with rfl | rfl <;> rfl
    have hstays : (u.trackedAndBitten i).tracker = u.tracker := by
      rw [trackedAndBitten_untracked u huntracked, (biteSlotEvent_frame u i false).2 .tracker (by decide)]
    rw [slotEvent_crowd u hcrowd, overloadTest_quiet (.inr (.inr fun h => hmodeU (hstays ▸ h.1)))]
    exact hbitten.trans (hframe.2 .faults (by decide))
  · rw [slotEvent_other u hcrowd]
    exact hbitten.trans (hframe.2 .faults (by decide))

theorem deliverSlot_torque {i : SlotId} (hi : i = 1 ∨ i = 2) (w : State) :
    (w.deliverSlot i).signal.torque = (w.deliverSlot i).torqueNow := by
  rw [torqueNow_congr (effective_deliverSlot w i 1) (effective_deliverSlot w i 2) (by rw [deliverSlot_kelly]),
    deliverSlot_signal, refreshDerived_signal]
  exact if_pos hi

theorem deliverSlot_crowd {i : SlotId} (hi : i = 3 ∨ i = 4) (w : State) :
    (w.deliverSlot i).signal.crowd = (w.deliverSlot i).crowdNow := by
  rw [crowdNow_congr (effective_deliverSlot w i 3) (effective_deliverSlot w i 4) (by rw [deliverSlot_kelly])
    (by rw [deliverSlot_kelly]), deliverSlot_signal, refreshDerived_signal]
  exact if_pos hi

theorem positionStale_of_slot {w : State} {i : SlotId} (hi : i = 5 ∨ i = 6) (h : (w.signal.slot i).state ≠ .fresh) :
    w.positionStale = true := by
  rw [positionStale_iff]
  rcases hi with rfl | rfl
  · exact .inl h
  · exact .inr h

/-- A position slot that is LOST takes a TRACKING tracker with it (R51). -/
theorem deliverSlot_position_stale {w : State} {i : SlotId} (hi : i = 5 ∨ i = 6) (h : (w.signal.slot i).state ≠ .fresh)
    (hmode : w.tracker.mode = .tracking) :
    (w.deliverSlot i).tracker = { w.tracker with mode := .lost, cause := some .sensor, xm := w.extensionNow } := by
  rw [deliverSlot_position_tracker hi, positionUpdate_stale (positionStale_of_slot hi h), if_pos hmode]
  rfl

/-- Settles O34: the slot's record, and the readers where its state changed. -/
theorem absenceTimerExpires : Obligations.AbsenceTimerExpires := by
  intro s i before
  have hslot : ∀ j, (s.judgeSlot i before.absenceExpired).signal.slot j =
      if j = i then before.absenceExpired else s.signal.slot j := fun j => slot_judgeSlot s i j _
  have hquiet : before.cfg.absEn = false ∨ before.state = .lost →
      unchangedExcept [.signal] s (s.judgeSlot i before.absenceExpired) := fun h => by
    rw [judgeSlot_same (absenceExpired_state h)]
    exact withSignal_frame s _
  refine ⟨_, rfl, judgeSlot_frame s i _, fun j hj => (hslot j).trans (if_neg hj), fun hoff => ⟨?_, hquiet (.inl hoff)⟩,
    fun hon => ?_, fun hlost => hquiet (.inr hlost), fun hon hnot => ?_⟩
  · exact ((hslot i).trans (if_pos rfl)).trans (absenceExpired_off hoff)
  · exact ((hslot i).trans (if_pos rfl)).trans (absenceExpired_on hon)
  · have hlost : before.absenceExpired.state = .lost := by rw [absenceExpired_on hon]
    have htaken : s.slotAbsent i = (s.storeSlot i before.absenceExpired).deliverSlot i :=
      judgeSlot_changed (by rw [hlost]; exact fun h => hnot h.symm)
    have hframe : unchangedExcept [.signal, .faults] s (s.storeSlot i before.absenceExpired) := storeSlot_frame s i _
    have hbefore : (s.storeSlot i before.absenceExpired).tracker = s.tracker := hframe.2 .tracker (by decide)
    rw [htaken]
    refine ⟨fun hi => ?_, fun hi => ?_, fun hi htrack => ?_, fun hroom => ?_⟩
    · exact deliverSlot_torque hi _
    · exact deliverSlot_crowd hi _
    · rw [deliverSlot_position_stale hi (by rw [slot_storeSlot, if_pos rfl, hlost]; decide) (by rw [hbefore, htrack]), hbefore]
      exact ⟨rfl, rfl, rfl, rfl⟩
    · rcases hroom with hzero | ⟨hmode, hidle⟩ | hroom
      · exact deliver_lost_holds ⟨hlost, hnot⟩ (.inl hzero)
      · rw [deliverSlot_silent (by rwa [hbefore]) (by rwa [hframe.2 .bite (by decide)]), storeSlot_reported ⟨hlost, hnot⟩]
        exact record_holds _ _
      · exact deliver_lost_holds ⟨hlost, hnot⟩ (.inr hroom)

end Sys2Proof.Machine
end

section
/-! WRITE_SIGNAL (R24 to R26): the item stored, and the slot judged anew. -/

namespace Sys2Proof.Machine

/-! ## Written values as words (R169) -/

theorem wordOf_toInt (w : Word) : wordOf w.toInt = w := BitVec.ofInt_toInt

theorem wordOfNat_toInt {w : Word} (h : 0 ≤ w.toInt) : wordOfNat w.toInt.toNat = w := by
  rw [← toNat_of_toInt_nonneg h]
  exact (BitVec.ofNat_toNat _ _).trans (BitVec.setWidth_eq _)

theorem word_of_code {w : Word} {n : Nat} (h : w.toInt = n) : wordOfNat n = w := by
  have hn : n = w.toInt.toNat := by omega
  rw [hn]
  exact wordOfNat_toInt (by omega)

/-! ## The record that a write leaves -/

/-- What a stored write to item j leaves of its slot: the item as written, and the loss judged anew (R24, R25). -/
def slotWritten (j : Fin 7) (value : Word) (before after : Slot) : Prop :=
  (∀ l : Fin 7, after.cfg.item l.val = if l = j then value else before.cfg.item l.val) ∧
  after.raw = before.raw ∧ after.held = before.held ∧ after.rangeCond = before.rangeCond ∧
  after.timer = before.timer ∧
  after.lostAbsence = (if j = 3 then decide (value.toInt = 1 ∧ before.timer = .expired) else before.lostAbsence) ∧
  after.lostRange = (if j = 4 then decide (value.toInt = 1) && before.rangeCond else before.lostRange) ∧
  after.state = (if after.lostAbsence || after.lostRange then .lost
    else if before.state = .lost then .awaiting else before.state)

/-- The state that the detectors of lost-by give (R17, R25). -/
def judgedState (absence range : Bool) (before : SlotState) : SlotState :=
  if absence || range then .lost else if before = .lost then .awaiting else before

theorem judgedState_kept {i : SlotId} {r : Slot} (h : slotOk i r) : judgedState r.lostAbsence r.lostRange r.state = r.state := by
  unfold judgedState
  split
  · rename_i hby
    exact (h.1.2 hby).symm
  · rename_i hby
    rw [if_neg fun hlost => hby (h.1.1 hlost)]

theorem withAbsEn_eq {i : SlotId} {r : Slot} (h : slotOk i r) (on : Bool) : r.withAbsEn on =
    { r with
      cfg := { r.cfg with absEn := on }, lostAbsence := on && decide (r.timer = .expired)
      state := judgedState (on && decide (r.timer = .expired)) r.lostRange r.state } := by
  have hkept := judgedState_kept h
  obtain ⟨hlost, habs, -⟩ := h
  cases on with
  | true =>
    by_cases ht : r.timer = .expired
    · simp [Slot.withAbsEn, ht, judgedState]
    · have hoff : r.lostAbsence = false := by simpa [ht] using habs
      rw [hoff] at hkept
      simp [Slot.withAbsEn, ht, hoff, hkept]
  | false =>
    by_cases hby : r.lostAbsence = true
    · have hst : r.state = .lost := hlost.2 (by simp [hby])
      cases hr : r.lostRange <;> simp [Slot.withAbsEn, Slot.settleLoss, hby, hst, hr, judgedState]
    · rw [Bool.not_eq_true] at hby
      rw [hby] at hkept
      simp [Slot.withAbsEn, hby, hkept]

theorem withRngEn_eq {i : SlotId} {r : Slot} (h : slotOk i r) (on : Bool) : r.withRngEn on =
    { r with
      cfg := { r.cfg with rngEn := on }, lostRange := on && r.rangeCond
      state := judgedState r.lostAbsence (on && r.rangeCond) r.state } := by
  have hkept := judgedState_kept h
  obtain ⟨hlost, -, hrng, -⟩ := h
  cases on with
  | true =>
    cases hcond : r.rangeCond with
    | true => simp [Slot.withRngEn, hcond, judgedState]
    | false =>
      have hoff : r.lostRange = false := by simpa [hcond] using hrng
      rw [hoff] at hkept
      simp [Slot.withRngEn, hcond, hoff, hkept]
  | false =>
    by_cases hby : r.lostRange = true
    · have hst : r.state = .lost := hlost.2 (by simp [hby])
      cases ha : r.lostAbsence <;> simp [Slot.withRngEn, Slot.settleLoss, hby, hst, ha, judgedState]
    · rw [Bool.not_eq_true] at hby
      rw [hby] at hkept
      simp [Slot.withRngEn, hby, hkept]

theorem boolCode_iff {w : Word} {on : Bool} (h : w.toInt = boolCode on) : decide (w.toInt = 1) = on := by
  rw [h]
  cases on <;> rfl

theorem item_absEn (c : SlotConfig) (on : Bool) (l : Fin 7) :
    ({ c with absEn := on } : SlotConfig).item l.val = if l = 3 then flagWord on else c.item l.val := by
  fin_cases l <;> rfl

theorem item_rngEn (c : SlotConfig) (on : Bool) (l : Fin 7) :
    ({ c with rngEn := on } : SlotConfig).item l.val = if l = 4 then flagWord on else c.item l.val := by
  fin_cases l <;> rfl

theorem withAbsEn_written {i : SlotId} {r : Slot} (h : slotOk i r) {on : Bool} {w : Word} (hw : w.toInt = boolCode on) :
    slotWritten 3 w r (r.withAbsEn on) := by
  have hword : flagWord on = w := word_of_code hw
  rw [withAbsEn_eq h]
  refine ⟨fun l => hword ▸ item_absEn r.cfg on l, rfl, rfl, rfl, rfl, ?_, rfl, rfl⟩
  rw [if_pos rfl, Bool.decide_and, boolCode_iff hw]

theorem withRngEn_written {i : SlotId} {r : Slot} (h : slotOk i r) {on : Bool} {w : Word} (hw : w.toInt = boolCode on) :
    slotWritten 4 w r (r.withRngEn on) := by
  have hword : flagWord on = w := word_of_code hw
  rw [withRngEn_eq h]
  refine ⟨fun l => hword ▸ item_rngEn r.cfg on l, rfl, rfl, rfl, rfl, rfl, ?_, rfl⟩
  rw [if_pos rfl, boolCode_iff hw]

/-- A stored item reads back as written, and the other items read as they did (R24, Table 11-8). -/
theorem slotEdit_item {i : SlotId} {c d : SlotConfig} {j : Fin 7} {w : Word} (h : c.edit i j.val w.toInt = some d)
    (l : Fin 7) : d.item l.val = if l = j then w else c.item l.val := by
  have hword : wordOf w.toInt = w := wordOf_toInt w
  fin_cases j
  · obtain ⟨hv, rfl⟩ : (10 ≤ w.toInt ∧ w.toInt ≤ 2000) ∧ { c with lossTime := w.toInt.toNat } = d := by
      simpa [SlotConfig.edit] using h
    fin_cases l
    · exact wordOfNat_toInt (by omega)
    all_goals rfl
  · obtain ⟨-, rfl⟩ : (inWrittenRange i w.toInt = true ∧ w.toInt ≤ c.rmax) ∧ { c with rmin := w.toInt } = d := by
      simpa [SlotConfig.edit] using h
    fin_cases l
    · rfl
    · exact hword
    all_goals rfl
  · obtain ⟨-, rfl⟩ : (inWrittenRange i w.toInt = true ∧ c.rmin ≤ w.toInt) ∧ { c with rmax := w.toInt } = d := by
      simpa [SlotConfig.edit] using h
    fin_cases l
    · rfl
    · rfl
    · exact hword
    all_goals rfl
  · cases h
  · cases h
  · obtain ⟨p, hp, rfl⟩ : ∃ p, w.toInt = policyCode p ∧ { c with policy := p } = d := by
      simp only [SlotConfig.edit] at h
      split at h
      · exact ⟨.hold, ‹_›, Option.some.inj h⟩
      · split at h
        · exact ⟨.subst, ‹_›, Option.some.inj h⟩
        · cases h
    have hpolicy : wordOfNat (policyCode p) = w := word_of_code hp
    fin_cases l
    pick_goal 6
    · exact hpolicy
    all_goals rfl
  · obtain ⟨-, rfl⟩ : inWrittenRange i w.toInt = true ∧ { c with subst := w.toInt } = d := by
      simpa [SlotConfig.edit] using h
    fin_cases l
    pick_goal 7
    · exact hword
    all_goals rfl

/-- The write of an item other than the enables leaves the judgement of the slot. -/
theorem slotEdit_written {i : SlotId} {r : Slot} {d : SlotConfig} {j : Fin 7} {w : Word} (h : slotOk i r)
    (hedit : r.cfg.edit i j.val w.toInt = some d) : slotWritten j w r { r with cfg := d } := by
  have h3 : j ≠ 3 := fun h3 => by rw [h3] at hedit; cases hedit
  have h4 : j ≠ 4 := fun h4 => by rw [h4] at hedit; cases hedit
  refine ⟨slotEdit_item hedit, rfl, rfl, rfl, rfl, ?_, ?_, (judgedState_kept h).symm⟩
  · rw [if_neg h3]
  · rw [if_neg h4]

/-! ## The write as a whole -/

theorem slot_configureSlot (s : State) (i k : SlotId) (c : SlotConfig) : (s.configureSlot i c).signal.slot k =
    if k = i then { s.signal.slot i with cfg := c } else s.signal.slot k := by
  unfold State.configureSlot
  dsimp only
  split
  · exact slot_withSlot _ _ _ _
  · rw [slot_deliverSlot]
    exact slot_withSlot _ _ _ _

theorem writeSlotItem_written {s t : State} {i : SlotId} {j : Fin 7} {w : Word} (h : s.writeSlotItem i j.val w.toInt = some t)
    (hs : slotOk i (s.signal.slot i)) :
    (∀ k, k ≠ i → t.signal.slot k = s.signal.slot k) ∧ slotWritten j w (s.signal.slot i) (t.signal.slot i) := by
  rcases writeSlotItem_cases h with ⟨on, hj, hv, rfl⟩ | ⟨on, hj, hv, rfl⟩ | ⟨c, hedit, rfl⟩
  · have hj3 : j = 3 := Fin.ext hj
    refine ⟨fun k hk => (slot_judgeSlot s i k _).trans (if_neg hk), ?_⟩
    rw [slot_judgeSlot, if_pos rfl, hj3]
    exact withAbsEn_written hs hv
  · have hj4 : j = 4 := Fin.ext hj
    refine ⟨fun k hk => (slot_judgeSlot s i k _).trans (if_neg hk), ?_⟩
    rw [slot_judgeSlot, if_pos rfl, hj4]
    exact withRngEn_written hs hv
  · refine ⟨fun k hk => (slot_configureSlot s i k c).trans (if_neg hk), ?_⟩
    rw [slot_configureSlot, if_pos rfl]
    exact slotEdit_written hs hedit

/-- The value lies in the range of its item (R23, R24). -/
def slotValueOk (i : SlotId) (c : SlotConfig) (j : Fin 7) (v : Int) : Prop :=
  let low : Int := if i = 6 then -200 else plausibleLow i
  let high : Int := if i = 6 then 15000 else plausibleHigh i
  (j = 0 ∧ 10 ≤ v ∧ v ≤ 2000) ∨ (j = 1 ∧ low ≤ v ∧ v ≤ c.rmax) ∨ (j = 2 ∧ c.rmin ≤ v ∧ v ≤ high) ∨
    ((j = 3 ∨ j = 4 ∨ j = 5) ∧ (v = 0 ∨ v = 1)) ∨ (j = 6 ∧ low ≤ v ∧ v ≤ high)

theorem inWrittenRange_iff (i : SlotId) (v : Int) : inWrittenRange i v = true ↔
    (if i = 6 then -200 else plausibleLow i) ≤ v ∧ v ≤ (if i = 6 then 15000 else plausibleHigh i) := by
  rw [inWrittenRange, Bool.and_eq_true, decide_eq_true_eq, decide_eq_true_eq, inSlotUnit]
  split
  · rename_i h
    rw [h, show plausibleLow 6 = -2000 from rfl, show plausibleHigh 6 = 150000 from rfl]
    omega
  · exact Iff.rfl

theorem isSome_of_flag {α : Type} (v : Int) (x y : α) :
    (if v = 0 then some x else if v = 1 then some y else none).isSome = true ↔ v = 0 ∨ v = 1 := by
  split_ifs with h0 h1
  · simp [h0]
  · simp [h1]
  · simp [h0, h1]

theorem writeSlotItem_isSome_iff {s : State} {i : SlotId} (hs : slotConfigOk i (s.signal.slot i).cfg) (j : Fin 7) (v : Int) :
    (s.writeSlotItem i j.val v).isSome = true ↔ slotValueOk i (s.signal.slot i).cfg j v := by
  have hin := inWrittenRange_iff i
  obtain ⟨-, -, hmin, hmax, -⟩ := hs
  have hlow := ((hin _).1 hmin).1
  have hhigh := ((hin _).1 hmax).2
  unfold slotValueOk
  dsimp only
  generalize (if i = 6 then (-200 : Int) else plausibleLow i) = low at hin hlow ⊢
  generalize (if i = 6 then (15000 : Int) else plausibleHigh i) = high at hin hhigh ⊢
  fin_cases j
  · simp [State.writeSlotItem, SlotConfig.edit]
  · simp only [State.writeSlotItem, SlotConfig.edit]
    simp [hin]
    omega
  · simp [State.writeSlotItem, SlotConfig.edit, hin]
    omega
  · simp [State.writeSlotItem, isSome_of_flag]
  · simp [State.writeSlotItem, isSome_of_flag]
  · simp [State.writeSlotItem, SlotConfig.edit, isSome_of_flag]
  · simp [State.writeSlotItem, SlotConfig.edit, hin]

theorem writeSignalItem_refused {s : State} {n : Nat} {i : SlotId} {j : Fin 7} (hn : n = 7 * i.val + j.val) {w : Word}
    (h : s.writeSlotItem i j.val w.toInt = none) : s.writeSignalItem n w = s.refuse .badValue := by
  obtain ⟨hi, hj⟩ := slotItem_split hn
  unfold State.writeSignalItem
  rw [hi, hj, h]

theorem writeSignalItem_stored {s t : State} {n : Nat} {i : SlotId} {j : Fin 7} (hn : n = 7 * i.val + j.val) {w : Word}
    (h : s.writeSlotItem i j.val w.toInt = some t) : s.writeSignalItem n w = t.accept := by
  obtain ⟨hi, hj⟩ := slotItem_split hn
  unfold State.writeSignalItem
  rw [hi, hj, h]

/-- Settles O46: the range of the item, then the record it leaves and the quantities formed from it. -/
theorem writeSignalStoresAndJudges : Obligations.WriteSignalStoresAndJudges := by
  constructor
  · intro s m tag item value hl hpast
    have hserve : s.guarded m (.write 3 item value) = s.serveWrite m 3 item value := guarded_unlocked hl m _
    exact ⟨_, rfl, takeRequest_turnedAway (hserve.trans (serveWrite_past_end rfl hpast)) tag⟩
  · intro s m tag i j item value hl hs hitem v before low high inRange
    have hserve : s.guarded m (.write 3 item value) = s.serveWrite m 3 item value := guarded_unlocked hl m _
    have howner := hserve.trans (serveWrite_signal s m value (by omega))
    have hstored := writeSlotItem_isSome_iff (hs.1 i).2.2.2.2.2.2 j v
    cases hwrite : s.writeSlotItem i j.val value.toInt with
    | none =>
      rw [hwrite] at hstored
      refine ⟨_, rfl, fun _ => takeRequest_turnedAway (howner.trans (writeSignalItem_refused hitem hwrite)) tag, fun hin => ?_⟩
      exact absurd (hstored.2 hin) (by simp)
    | some u =>
      rw [hwrite] at hstored
      have hanswer := howner.trans (writeSignalItem_stored hitem hwrite)
      obtain ⟨hreply, hframe⟩ := takeRequest_effected hanswer (writeSlotItem_frame hwrite) (by decide) (by decide) tag
      refine ⟨_, rfl, fun hout => absurd (hstored.1 rfl) hout, fun _ => ⟨hreply, hframe, ?_⟩⟩
      have hreplied := sendReply_frame u.accept.state m (Request.write 3 item value).code tag u.accept.reply
      rw [takeRequest_answered hanswer, hreplied.2 .signal (by decide),
        torqueNow_congr (s := u.accept.state) (effective_of_signal (hreplied.2 .signal (by decide)) 1)
          (effective_of_signal (hreplied.2 .signal (by decide)) 2) (by rw [hreplied.2 .kelly (by decide)]),
        crowdNow_congr (s := u.accept.state) (effective_of_signal (hreplied.2 .signal (by decide)) 3)
          (effective_of_signal (hreplied.2 .signal (by decide)) 4) (by rw [hreplied.2 .kelly (by decide)])
          (by rw [hreplied.2 .kelly (by decide)])]
      obtain ⟨hothers, hitems, hraw, hheld, hcond, htimer, habsence, hrange, hstate⟩ := writeSlotItem_written hwrite (hs.1 i)
      obtain ⟨-, htorque, hcrowd⟩ := writeSlotItem_signalOk hwrite hs
      exact ⟨hothers, hitems, hraw, hheld, hcond, htimer, habsence, hrange, hstate, htorque, hcrowd⟩

end Sys2Proof.Machine
end

section
/-! The status frame (R165, Table 11-2): each field in its bits. -/

namespace Sys2Proof.Machine

/-! ## Codes in a byte -/

theorem byteOf_toNat {x : Nat} (h : x < 256) : (byteOf x).toNat = x := by
  rw [byteOf, BitVec.toNat_ofNat]
  exact Nat.mod_eq_of_lt h

theorem byteOf_bit {x : Nat} (h : x < 256) (i : Nat) : (byteOf x).getLsbD i = decide (x / 2 ^ i % 2 = 1) := by
  rw [← BitVec.testBit_toNat, byteOf_toNat h, Nat.testBit_eq_decide_div_mod_eq]

theorem governorCode_lt (g : Governor) : governorCode g < 4 := by cases g <;> decide

theorem biteStateCode_lt (b : BiteState) : biteStateCode b < 8 := by cases b <;> decide

theorem trackerModeCode_lt (m : TrackerMode) : trackerModeCode m < 4 := by cases m <;> decide

theorem linkModeCode_spec (m : LinkMode) : linkModeCode m < 2 ∧ (linkModeCode m = 1 ↔ m = .loopback) := by
  cases m <;> decide

theorem bankCode_spec (i : BankId) : bankCode i < 2 ∧ (bankCode i = 1 ↔ i = .b) := by cases i <;> decide

theorem boolCode_spec (x : Bool) : boolCode x < 2 ∧ (boolCode x = 1 ↔ x = true) := by cases x <;> decide

theorem holderCode_lt (r : Option Reservation) : holderCode r < 3 := by
  rcases r with _ | ⟨_ | _, _⟩ <;> simp [holderCode]

theorem holderCode_none (r : Option Reservation) : holderCode r = 0 ↔ r = none := by
  rcases r with _ | ⟨_ | _, _⟩ <;> simp [holderCode]

theorem holderCode_m0 (s : State) : holderCode s.reservation = 1 ↔ holdsReservation s .m0 := by
  unfold holdsReservation
  rcases s.reservation with _ | ⟨_ | _, _⟩ <;> simp [holderCode]

theorem holderCode_m1 (s : State) : holderCode s.reservation = 2 ↔ holdsReservation s .m1 := by
  unfold holdsReservation
  rcases s.reservation with _ | ⟨_ | _, _⟩ <;> simp [holderCode]

/-! ## The highest class (R165) -/

theorem faultClassCode_range (k : FaultClass) : 1 ≤ faultClassCode k ∧ faultClassCode k < 8 := by cases k <;> decide

theorem foldl_highest (q : List FaultRecord) (n : Nat) :
    let top := q.foldl (fun acc r => max acc (faultClassCode r.cls)) n
    n ≤ top ∧ (∀ r ∈ q, faultClassCode r.cls ≤ top) ∧ (top = n ∨ ∃ r ∈ q, faultClassCode r.cls = top) := by
  induction q generalizing n with
  | nil => simp
  | cons r rs ih =>
    obtain ⟨hle, hall, hreached⟩ := ih (max n (faultClassCode r.cls))
    simp only [List.foldl_cons, List.mem_cons, forall_eq_or_imp, exists_eq_or_imp]
    refine ⟨(le_max_left _ _).trans hle, ⟨(le_max_right _ _).trans hle, hall⟩, ?_⟩
    rcases hreached with htop | hreached
    · rw [htop]
      rcases max_choice n (faultClassCode r.cls) with h | h
      · exact .inl h
      · exact .inr (.inl h.symm)
    · exact .inr (.inr hreached)

theorem highestClass_spec (q : List FaultRecord) : highestClass q < 8 ∧ (highestClass q = 0 ↔ q = []) ∧
    (∀ r ∈ q, faultClassCode r.cls ≤ highestClass q) ∧
    (q ≠ [] → ∃ r ∈ q, faultClassCode r.cls = highestClass q) := by
  obtain ⟨-, hall, hreached⟩ := foldl_highest q 0
  change (highestClass q = 0 ∨ _) at hreached
  have hempty : highestClass q = 0 → q = [] := fun h => by
    refine List.eq_nil_iff_forall_not_mem.2 fun r hr => ?_
    have hcode := (faultClassCode_range r.cls).1
    have hle : faultClassCode r.cls ≤ highestClass q := hall r hr
    omega
  refine ⟨?_, ⟨hempty, fun h => by rw [h]; rfl⟩, hall, fun h => hreached.resolve_left fun h0 => h (hempty h0)⟩
  rcases hreached with h | ⟨r, -, h⟩
  · omega
  · rw [highestClass, ← h]
    exact (faultClassCode_range r.cls).2

/-! ## The lost-slot mask (R33) -/

/-- The number whose bits are a list's, the least significant first. -/
def maskOf : List Nat → Nat
  | [] => 0
  | b :: bs => b + 2 * maskOf bs

theorem maskOf_lt {bits : List Nat} (h : ∀ b ∈ bits, b < 2) : maskOf bits < 2 ^ bits.length := by
  induction bits with
  | nil => decide
  | cons b bs ih =>
    rw [List.forall_mem_cons] at h
    have hrest := ih h.2
    have hb := h.1
    rw [maskOf, List.length_cons, pow_succ]
    omega

theorem maskOf_bit {bits : List Nat} (h : ∀ b ∈ bits, b < 2) (i : Nat) : maskOf bits / 2 ^ i % 2 = bits.getD i 0 := by
  induction bits generalizing i with
  | nil => simp [maskOf]
  | cons b bs ih =>
    rw [List.forall_mem_cons] at h
    have hb := h.1
    cases i with
    | zero =>
      rw [maskOf, pow_zero, Nat.div_one]
      change (b + 2 * maskOf bs) % 2 = b
      omega
    | succ i =>
      rw [maskOf, pow_succ', ← Nat.div_div_eq_div_mul, show (b + 2 * maskOf bs) / 2 = maskOf bs by omega, ih h.2]
      rfl

/-- A slot's bit before it takes its place. -/
def SignalStore.lostFlag (g : SignalStore) (i : SlotId) : Nat := if (g.slot i).state = .lost then 1 else 0

theorem lostFlag_lt (g : SignalStore) : ∀ b ∈ slotIds.map g.lostFlag, b < 2 := by
  intro b hb
  obtain ⟨i, -, rfl⟩ := List.mem_map.1 hb
  unfold SignalStore.lostFlag
  split <;> decide

theorem lostMask_eq (g : SignalStore) : g.lostMask = maskOf (slotIds.map g.lostFlag) := by
  have hbit : ∀ i, g.lostBit i = 2 ^ i.val * g.lostFlag i := fun i => by
    unfold SignalStore.lostBit SignalStore.lostFlag
    split <;> simp
  simp only [SignalStore.lostMask, slotIds, List.map_cons, List.map_nil, List.sum_cons, List.sum_nil, hbit, maskOf]
  norm_num
  omega

theorem lostMask_lt (g : SignalStore) : g.lostMask < 128 := lostMask_eq g ▸ maskOf_lt (lostFlag_lt g)

theorem lostMask_bit (g : SignalStore) (i : SlotId) : g.lostMask / 2 ^ i.val % 2 = 1 ↔ (g.slot i).state = .lost := by
  have hflag : (slotIds.map g.lostFlag).getD i.val 0 = g.lostFlag i := by fin_cases i <;> rfl
  rw [lostMask_eq, maskOf_bit (lostFlag_lt g), hflag]
  simp [SignalStore.lostFlag]

/-- Settles O36: the bytes of the frame, field by field. -/
theorem statusFrameCarriesItsFields : Obligations.StatusFrameCarriesItsFields := by
  intro s hqueue
  obtain ⟨hhigh, hempty, hall, hreached⟩ := highestClass_spec s.faults.queue
  have hgovernor := governorCode_lt s.governor
  have hholder := holderCode_lt s.reservation
  have hbite := biteStateCode_lt s.bite.state
  have htracker := trackerModeCode_lt s.tracker.mode
  obtain ⟨hlink, hlooped⟩ := linkModeCode_spec s.chan.linkMode
  obtain ⟨hbank, hactive⟩ := bankCode_spec s.banks.active
  obtain ⟨hpending, hwaits⟩ := boolCode_spec s.banks.pendingSwitch
  refine ⟨s.sendStatus, s.statusByte0, s.statusByte1, byteOf s.faults.queue.length, byteOf s.signal.lostMask, rfl,
    sendStatus_frame s, rfl, rfl, ?_⟩
  unfold State.statusByte0 State.statusByte1
  generalize hn0 : governorCode s.governor + 4 * linkModeCode s.chan.linkMode + 8 * bankCode s.banks.active +
    16 * boolCode s.banks.pendingSwitch + 32 * holderCode s.reservation = n0
  generalize hn1 : biteStateCode s.bite.state + 8 * trackerModeCode s.tracker.mode + 32 * highestClass s.faults.queue = n1
  have hlt0 : n0 < 256 := by omega
  have hlt1 : n1 < 256 := by omega
  have hmask := lostMask_lt s.signal
  rw [byteOf_toNat hlt0, byteOf_toNat hlt1, byteOf_toNat (by omega), byteOf_bit hlt0, byteOf_bit hlt0, byteOf_bit hlt0,
    byteOf_bit (by omega : s.signal.lostMask < 256), ← holderCode_none, ← holderCode_m0, ← holderCode_m1, ← hempty]
  have hbit2 : n0 / 2 ^ 2 % 2 = linkModeCode s.chan.linkMode := by norm_num; omega
  have hbit3 : n0 / 2 ^ 3 % 2 = bankCode s.banks.active := by norm_num; omega
  have hbit4 : n0 / 2 ^ 4 % 2 = boolCode s.banks.pendingSwitch := by norm_num; omega
  have hholds : n0 / 32 = holderCode s.reservation := by omega
  have hclass : n1 / 32 = highestClass s.faults.queue := by omega
  rw [hbit2, hbit3, hbit4, hholds, hclass, decide_eq_true_eq, decide_eq_true_eq]
  refine ⟨by omega, hlooped, hactive, ?_, Iff.rfl, Iff.rfl, Iff.rfl, by omega, by omega, Iff.rfl, hall, hreached, rfl,
    fun i => ?_, ?_⟩
  · exact Bool.eq_iff_iff.2 (decide_eq_true_iff.trans hwaits)
  · rw [byteOf_bit (by omega), decide_eq_true_eq]
    exact lostMask_bit s.signal i
  · rw [decide_eq_false_iff_not]
    omega

end Sys2Proof.Machine
end
